-- ==== Sys2Proof/Word.lean ====
section
/-! DEFINITION. The three kinds of value the manual treats as bits or as a counter that wraps: the
bytes of a frame (R188, R196), the microsecond counter (R1) and the 16-bit numbers that wrap from
65535 to 0 (the post order number, R23, and the pass number, R85). Every other quantity of the
governor is an integer in a range and is a `Nat` or an `Int`. -/

namespace Sys2Proof

/-- One byte on a port's SDI or SDO line (R188). -/
abbrev Byte := BitVec 8

/-- A value of the Capture Unit's 32-bit microsecond counter (R1). -/
abbrev Stamp := BitVec 32

/-- A number 0..65535 that wraps to 0: post order numbers (R23) and pass numbers (R85). -/
abbrev Serial := BitVec 16

end Sys2Proof
end

