-- ==== Sys2Proof/Syntax.lean ====
section
/-! DEFINITION. The commands: `Instr`, one constructor per row of spec/opcode_table.json, with the
operands the manual gives each. A command is either an event at the governor's field lines or reset
sources, the expiry of one of its timers, or one transaction of a master at its port, taken at the
rise of the port's chip-select (R188). -/

namespace Sys2Proof

/-- The three SPI target ports (introduction; R187). -/
inductive Port
  | i | c | s
deriving DecidableEq, Repr

/-- The two rear wheels, and with them their sensors, motors and inverters. -/
inductive Wheel
  | left | right
deriving DecidableEq, Repr

/-- The two braking-grid banks (R108). -/
inductive BankId
  | one | two
deriving DecidableEq, Repr

/-- The four heated elements of the Overload Monitor (R151). -/
inductive Element
  | ml | mr | g1 | g2
deriving DecidableEq, Repr

/-- The two parties that may drive the truck (R44). -/
inductive Party
  | cab | supervisor
deriving DecidableEq, Repr

/-- The level a strap or a feedback line stands at. -/
inductive Strap
  | fitted | notFitted
deriving DecidableEq, Repr

/-- A low pulse on RSTN: at least the minimum reset pulse width, or shorter (R178). -/
inductive Pulse
  | full | short
deriving DecidableEq, Repr

/-- The rest of a complete request frame after its request code: the argument bytes (n of them, n
being the frame's length byte), the bytes clocked beyond the first 2 + n, which the port ignores
(R188), and whether chip-select fell before the last reset ended (R187: such a transaction is
discarded when chip-select rises). -/
structure Frame where
  args  : List Byte
  extra : List Byte := []
  early : Bool := false
deriving DecidableEq, Repr

/-- The requests of R191. -/
inductive Request
  | nop | readRecord | readTable | takeNotices | setNoticeMask | setNoticeThreshold
  | postLimit | withdrawLimit
  | claim | release | yieldAuthority | withdrawBid | submitDemand
  | reportDrive | reportCab
  | profileWrite | commitProfile
  | clearTrips
deriving DecidableEq, Repr

/-- The request codes of R191. -/
def Request.code : Request → Byte
  | .nop => 0x00
  | .readRecord => 0x01
  | .readTable => 0x02
  | .takeNotices => 0x03
  | .setNoticeMask => 0x04
  | .setNoticeThreshold => 0x05
  | .postLimit => 0x10
  | .withdrawLimit => 0x11
  | .claim => 0x20
  | .release => 0x21
  | .yieldAuthority => 0x22
  | .withdrawBid => 0x23
  | .submitDemand => 0x24
  | .reportDrive => 0x30
  | .reportCab => 0x31
  | .profileWrite => 0x40
  | .commitProfile => 0x41
  | .clearTrips => 0x50

/-- Every request of R191, in the table's order. -/
def Request.all : List Request :=
  [.nop, .readRecord, .readTable, .takeNotices, .setNoticeMask, .setNoticeThreshold,
   .postLimit, .withdrawLimit, .claim, .release, .yieldAuthority, .withdrawBid, .submitDemand,
   .reportDrive, .reportCab, .profileWrite, .commitProfile, .clearTrips]

/-- The commands, one constructor per row of spec/opcode_table.json, in the table's order. -/
inductive Instr
  /-- POWER_ON (R178): the supply rises. -/
  | powerOn
  /-- RESET_LINE (R178): RSTN is held low with the supply steady. -/
  | resetLine (pulse : Pulse)
  /-- RESET_END (R178): the reset source goes away; the levels at SFIT, KFB1 and KFB2 as it does. -/
  | resetEnd (sfit : Strap) (kfb1 kfb2 : Bool)
  /-- WHEEL_EDGE (R3): a rising edge at WSL or WSR. -/
  | wheelEdge (w : Wheel)
  /-- WHEEL_EDGE_TIMER_EXPIRY (R8). -/
  | wheelEdgeTimerExpiry (w : Wheel)
  /-- ANGLE_RISING_EDGE (R9): a rising edge at ANG. -/
  | angleRisingEdge
  /-- ANGLE_FALLING_EDGE (R9): a falling edge at ANG. -/
  | angleFallingEdge
  /-- ANGLE_EDGE_TIMER_EXPIRY (R12). -/
  | angleEdgeTimerExpiry
  /-- LVF_EDGE (R13): a rising edge at LVF. -/
  | lvfEdge
  /-- LINK_GATE_EXPIRY (R13). -/
  | linkGateExpiry
  /-- NOP (R188). -/
  | nop (p : Port) (f : Frame)
  /-- TRUNCATED (R188): a transaction shorter than its frame; the bytes clocked in. -/
  | truncated (p : Port) (bytes : List Byte) (early : Bool)
  /-- UNKNOWN_REQUEST (R189): a complete frame whose code is not in the request table. -/
  | unknownRequest (p : Port) (code : Byte) (f : Frame)
  /-- READ_RECORD (R192). -/
  | readRecord (p : Port) (f : Frame)
  /-- READ_TABLE (R41, R185). -/
  | readTable (p : Port) (f : Frame)
  /-- TAKE_NOTICES (R194). -/
  | takeNotices (p : Port) (f : Frame)
  /-- SET_NOTICE_MASK (R195). -/
  | setNoticeMask (p : Port) (f : Frame)
  /-- SET_NOTICE_THRESHOLD (R195). -/
  | setNoticeThreshold (p : Port) (f : Frame)
  /-- POST_LIMIT (R24). -/
  | postLimit (p : Port) (f : Frame)
  /-- WITHDRAW_LIMIT (R29). -/
  | withdrawLimit (p : Port) (f : Frame)
  /-- HOLD_TIMER_EXPIRY_OF_LIMIT (R31): the hold of the master contribution in a pool slot. -/
  | holdTimerExpiryOfLimit (slot : Nat)
  /-- CLAIM (R47, R48). -/
  | claim (p : Port) (f : Frame)
  /-- RELEASE (R49, R50). -/
  | release (p : Port) (f : Frame)
  /-- YIELD (R51). -/
  | yieldAuthority (p : Port) (f : Frame)
  /-- WITHDRAW_BID (R53). -/
  | withdrawBid (p : Port) (f : Frame)
  /-- SUBMIT_DEMAND (R58). -/
  | submitDemand (p : Port) (f : Frame)
  /-- HANDOVER_DEADLINE_EXPIRY (R52). -/
  | handoverDeadlineExpiry
  /-- DEMAND_LIFETIME_EXPIRY (R59). -/
  | demandLifetimeExpiry (x : Party)
  /-- RESOLUTION_TIMER_EXPIRY (R67). -/
  | resolutionTimerExpiry
  /-- HOLD_TIMER_EXPIRY (R97). -/
  | holdTimerExpiry
  /-- OVERSPEED_TIMER_EXPIRY (R102). -/
  | overspeedTimerExpiry
  /-- NO_RETARD_TIMER_EXPIRY (R104). -/
  | noRetardTimerExpiry
  /-- FEEDBACK_RISES (R112): a rising edge at KFBn. -/
  | feedbackRises (b : BankId)
  /-- FEEDBACK_FALLS (R113): a falling edge at KFBn. -/
  | feedbackFalls (b : BankId)
  /-- HANDSHAKE_TIMER_EXPIRY (R112, R115, R116). -/
  | handshakeTimerExpiry (b : BankId)
  /-- PERIOD_BOUNDARY (R120). -/
  | periodBoundary (b : BankId)
  /-- STEERING_TIMER_EXPIRY (R130). -/
  | steeringTimerExpiry
  /-- REPORT_CAB (R134). -/
  | reportCab (p : Port) (f : Frame)
  /-- CAB_STATUS_LIFETIME_EXPIRY (R135). -/
  | cabStatusLifetimeExpiry
  /-- REPORT_DRIVE (R149). -/
  | reportDrive (p : Port) (f : Frame)
  /-- DRIVE_REPORT_LIFETIME_EXPIRY (R150). -/
  | driveReportLifetimeExpiry
  /-- OVERLOAD_TIMER_EXPIRY (R153). -/
  | overloadTimerExpiry
  /-- DWELL_TIMER_EXPIRY (R155). -/
  | dwellTimerExpiry (e : Element)
  /-- CLEAR_TRIPS (R174). -/
  | clearTrips (p : Port) (f : Frame)
  /-- PROFILE_WRITE (R180). -/
  | profileWrite (p : Port) (f : Frame)
  /-- COMMIT_PROFILE (R181). -/
  | commitProfile (p : Port) (f : Frame)
  /-- CHOPPER_ON_TIME_END (R121): a gate's on-time within its period has run. -/
  | chopperOnTimeEnd (b : BankId)
deriving DecidableEq, Repr

end Sys2Proof
end

