-- ==== Sys2Proof/WellFormed.lean ====
section
/-! DEFINITION. Which commands a port can really carry: a request frame has at most 255 argument
bytes (R188), a TRUNCATED transaction is one that holds no complete frame (R188), an UNKNOWN_REQUEST
frame has a code that the table of R191 does not hold (R189), and a hold timer belongs to a slot of
the master pool (R22, R30). -/

namespace Sys2Proof

/-- The argument length n of a frame is 0..255 (R188). -/
def Frame.wf (f : Frame) : Bool := f.args.length ≤ 255

/-- A transaction of fewer than two bytes, or of fewer than 2 + n bytes, n being its second byte (R188). -/
def isTruncated : List Byte → Bool
  | _ :: n :: rest => rest.length < n.toNat
  | _ => true

/-- A code in the request table of R191. -/
def isKnownCode (code : Byte) : Bool := Request.all.any fun r => r.code = code

/-- The slots of the master pool, 12 to 31 (R22). -/
def isPoolSlot (slot : Nat) : Bool := 12 ≤ slot && slot ≤ 31

/-- The commands that can occur. -/
def Instr.wf : Instr → Bool
  | .powerOn => true
  | .resetLine _ => true
  | .resetEnd _ _ _ => true
  | .wheelEdge _ => true
  | .wheelEdgeTimerExpiry _ => true
  | .angleRisingEdge => true
  | .angleFallingEdge => true
  | .angleEdgeTimerExpiry => true
  | .lvfEdge => true
  | .linkGateExpiry => true
  | .nop _ f => f.wf
  | .truncated _ bytes _ => isTruncated bytes
  | .unknownRequest _ code f => !isKnownCode code && f.wf
  | .readRecord _ f => f.wf
  | .readTable _ f => f.wf
  | .takeNotices _ f => f.wf
  | .setNoticeMask _ f => f.wf
  | .setNoticeThreshold _ f => f.wf
  | .postLimit _ f => f.wf
  | .withdrawLimit _ f => f.wf
  | .holdTimerExpiryOfLimit slot => isPoolSlot slot
  | .claim _ f => f.wf
  | .release _ f => f.wf
  | .yieldAuthority _ f => f.wf
  | .withdrawBid _ f => f.wf
  | .submitDemand _ f => f.wf
  | .handoverDeadlineExpiry => true
  | .demandLifetimeExpiry _ => true
  | .resolutionTimerExpiry => true
  | .holdTimerExpiry => true
  | .overspeedTimerExpiry => true
  | .noRetardTimerExpiry => true
  | .feedbackRises _ => true
  | .feedbackFalls _ => true
  | .handshakeTimerExpiry _ => true
  | .periodBoundary _ => true
  | .steeringTimerExpiry => true
  | .reportCab _ f => f.wf
  | .cabStatusLifetimeExpiry => true
  | .reportDrive _ f => f.wf
  | .driveReportLifetimeExpiry => true
  | .overloadTimerExpiry => true
  | .dwellTimerExpiry _ => true
  | .clearTrips _ f => f.wf
  | .profileWrite _ f => f.wf
  | .commitProfile _ f => f.wf
  | .chopperOnTimeEnd _ => true

end Sys2Proof
end

