-- ==== Sys2Proof/Decode.lean ====
section
/-! DEFINITION. How the bytes a master clocks in spell a command: the request frame of R196, read by R188
and the request table of R191, and the frame a command is sent as. The governor has no instruction words:
no row of spec/opcode_table.json gives a command any bits (`"fields": []`, no fixed bits), so no word
spells a command. -/

namespace Sys2Proof

/-- The command a word spells by the table's bits: none, since the table gives no row any bits. -/
def decodeTableWord (_nbits _w : Nat) : Option Instr := none

/-! ### Request frames -/

/-- The request a code names in the table of R191, if it names one. -/
def requestOf? (code : Byte) : Option Request := Request.all.find? fun r => r.code = code

/-- The command of a request at a port (R191). -/
def Request.command (r : Request) (p : Port) (f : Frame) : Instr :=
  match r with
  | .nop => .nop p f
  | .readRecord => .readRecord p f
  | .readTable => .readTable p f
  | .takeNotices => .takeNotices p f
  | .setNoticeMask => .setNoticeMask p f
  | .setNoticeThreshold => .setNoticeThreshold p f
  | .postLimit => .postLimit p f
  | .withdrawLimit => .withdrawLimit p f
  | .claim => .claim p f
  | .release => .release p f
  | .yieldAuthority => .yieldAuthority p f
  | .withdrawBid => .withdrawBid p f
  | .submitDemand => .submitDemand p f
  | .reportDrive => .reportDrive p f
  | .reportCab => .reportCab p f
  | .profileWrite => .profileWrite p f
  | .commitProfile => .commitProfile p f
  | .clearTrips => .clearTrips p f

/-- The bytes of one transaction at a port, as the port takes them when chip-select rises (R188, R189, R196):
byte 0 is the request code, byte 1 the argument length n, the next n bytes are the arguments, and the bytes
beyond are ignored. Fewer than two bytes, or fewer than 2 + n, are a TRUNCATED transaction; a code outside
the request table makes an UNKNOWN_REQUEST. `early` says that chip-select fell before the last reset ended
(R187). -/
def decodeFrame (p : Port) (early : Bool) (bytes : List Byte) : Instr :=
  match bytes with
  | code :: n :: rest =>
      if rest.length < n.toNat then .truncated p bytes early
      else
        let f : Frame := { args := rest.take n.toNat, extra := rest.drop n.toNat, early := early }
        match requestOf? code with
        | some r => r.command p f
        | none => .unknownRequest p code f
  | _ => .truncated p bytes early

/-- The bytes a complete frame is clocked in as (R196): code, argument length, arguments, and the bytes
beyond them. -/
def Frame.bytes (code : Byte) (f : Frame) : List Byte :=
  code :: BitVec.ofNat 8 f.args.length :: (f.args ++ f.extra)

/-- The transaction a command is, if it is one: its port, whether it began before the last reset ended, and
the bytes clocked in. -/
def Instr.transaction? : Instr → Option (Port × Bool × List Byte)
  | .nop p f => some (p, f.early, f.bytes Request.nop.code)
  | .truncated p bytes early => some (p, early, bytes)
  | .unknownRequest p code f => some (p, f.early, f.bytes code)
  | .readRecord p f => some (p, f.early, f.bytes Request.readRecord.code)
  | .readTable p f => some (p, f.early, f.bytes Request.readTable.code)
  | .takeNotices p f => some (p, f.early, f.bytes Request.takeNotices.code)
  | .setNoticeMask p f => some (p, f.early, f.bytes Request.setNoticeMask.code)
  | .setNoticeThreshold p f => some (p, f.early, f.bytes Request.setNoticeThreshold.code)
  | .postLimit p f => some (p, f.early, f.bytes Request.postLimit.code)
  | .withdrawLimit p f => some (p, f.early, f.bytes Request.withdrawLimit.code)
  | .claim p f => some (p, f.early, f.bytes Request.claim.code)
  | .release p f => some (p, f.early, f.bytes Request.release.code)
  | .yieldAuthority p f => some (p, f.early, f.bytes Request.yieldAuthority.code)
  | .withdrawBid p f => some (p, f.early, f.bytes Request.withdrawBid.code)
  | .submitDemand p f => some (p, f.early, f.bytes Request.submitDemand.code)
  | .reportDrive p f => some (p, f.early, f.bytes Request.reportDrive.code)
  | .reportCab p f => some (p, f.early, f.bytes Request.reportCab.code)
  | .profileWrite p f => some (p, f.early, f.bytes Request.profileWrite.code)
  | .commitProfile p f => some (p, f.early, f.bytes Request.commitProfile.code)
  | .clearTrips p f => some (p, f.early, f.bytes Request.clearTrips.code)
  | .powerOn => none
  | .resetLine _ => none
  | .resetEnd _ _ _ => none
  | .wheelEdge _ => none
  | .wheelEdgeTimerExpiry _ => none
  | .angleRisingEdge => none
  | .angleFallingEdge => none
  | .angleEdgeTimerExpiry => none
  | .lvfEdge => none
  | .linkGateExpiry => none
  | .holdTimerExpiryOfLimit _ => none
  | .handoverDeadlineExpiry => none
  | .demandLifetimeExpiry _ => none
  | .resolutionTimerExpiry => none
  | .holdTimerExpiry => none
  | .overspeedTimerExpiry => none
  | .noRetardTimerExpiry => none
  | .feedbackRises _ => none
  | .feedbackFalls _ => none
  | .handshakeTimerExpiry _ => none
  | .periodBoundary _ => none
  | .steeringTimerExpiry => none
  | .cabStatusLifetimeExpiry => none
  | .driveReportLifetimeExpiry => none
  | .overloadTimerExpiry => none
  | .dwellTimerExpiry _ => none
  | .chopperOnTimeEnd _ => none

end Sys2Proof
end

