-- ==== Sys2Proof/Config.lean ====
section
/-! DEFINITION. The values the manual leaves open. Each is an opaque constant applied to the model's
own counter `State.draws`: nothing in Lean can evaluate one or prove anything of its value, so a
statement that holds, holds whatever the value is. -/

namespace Sys2Proof.Config

/-- Which of several timers that run out in the same microsecond is taken first. The manual says of
such pairs that either may be taken first (R8, R12, R32, R46, R67, R88 and others). Assumption log 3. -/
opaque dueOrder : Nat → Nat

/-- Whether a low pulse on RSTN shorter than the minimum pulse width resets the part: "may or may not
reset the part" (R178). Assumption log 4. -/
opaque shortPulseResets : Nat → Bool

end Sys2Proof.Config
end

