-- ==== Sys2Proof/Machine/State.lean ====
section
/-! DEFINITION. The state of the governor as plain data, block by block, with the value each piece
takes after reset. Each block owns its state (introduction, *Block diagram*). Timers hold the
microseconds left, or nothing while they are stopped. -/

namespace Sys2Proof.Machine

/-- A timer: stopped, or running with so many microseconds left. -/
abbrev Timer := Option Nat

/-- One value for each rear wheel. -/
structure PerWheel (α : Type) where
  left  : α
  right : α
deriving DecidableEq, Repr

/-- One value for each grid bank. -/
structure PerBank (α : Type) where
  one : α
  two : α
deriving DecidableEq, Repr

/-- One value for each port. -/
structure PerPort (α : Type) where
  i : α
  c : α
  s : α
deriving DecidableEq, Repr

/-- One value for each party. -/
structure PerParty (α : Type) where
  cab        : α
  supervisor : α
deriving DecidableEq, Repr

/-- One value for each heated element. -/
structure PerElement (α : Type) where
  ml : α
  mr : α
  g1 : α
  g2 : α
deriving DecidableEq, Repr

/-! ### Capture Unit -/

/-- Condition of a wheel channel (R2). -/
inductive WheelState
  | stopped | turning | fault
deriving DecidableEq, Repr

/-- The record of a wheel-speed channel (R2). -/
structure WheelChannel where
  state     : WheelState
  prevStamp : Option Stamp
  ring      : List Nat
  rpm       : Nat
  noiseRun  : Nat
  clearRun  : Nat
  edgeTimer : Timer
deriving DecidableEq, Repr

/-- Condition of the steering-angle channel (R9). -/
inductive AngleState
  | ok | fault
deriving DecidableEq, Repr

/-- The record of the steering-angle channel (R9). -/
structure AngleChannel where
  state        : AngleState
  risingStamp  : Option Stamp
  fallingStamp : Option Stamp
  period       : Nat
  highTime     : Nat
  duty         : Nat
  angle        : Int
  outRun       : Nat
  validRun     : Nat
  edgeTimer    : Timer
deriving DecidableEq, Repr

/-- Result of the last link gate (R13). -/
inductive LinkState
  | ok | lost
deriving DecidableEq, Repr

/-- The record of the link channel and its gate timer (R13). -/
structure LinkChannel where
  running   : Nat
  lastCount : Nat
  v         : Nat
  state     : LinkState
  gateTimer : Timer
deriving DecidableEq, Repr

/-- The Capture Unit (R1, R2, R9, R13, R15, R16, R17). -/
structure Capture where
  counter    : Stamp
  wheels     : PerWheel WheelChannel
  angle      : AngleChannel
  link       : LinkChannel
  v          : Nat
  vValid     : Bool
  stationary : Bool
  lastPair   : PerWheel Nat
deriving DecidableEq, Repr

/-! ### Envelope Unit -/

/-- The originators of limits (R20). -/
inductive Source
  | trip | grid | steer | payload | slipL | slipR | thermalML | thermalMR
  | inverter | cab | supervisor
deriving DecidableEq, Repr

/-- What a contribution limits (R20). -/
inductive Kind
  | propelTorque | retardTorque | retardPower | speed
deriving DecidableEq, Repr

/-- Which wheel a contribution applies to (R20). -/
inductive Scope
  | left | right | axle
deriving DecidableEq, Repr

/-- The hold of a master contribution: the hold time granted, in ms, and the time left, in µs (R20, R30). -/
structure LimitHold where
  time : Nat
  left : Nat
deriving DecidableEq, Repr

/-- A contribution (R20); only a master contribution has a hold. -/
structure Contribution where
  source : Source
  kind   : Kind
  scope  : Scope
  value  : Nat
  reason : Nat
  order  : Serial
  hold   : Option LimitHold
deriving DecidableEq, Repr

/-- The six envelope fields (R35). -/
inductive EnvField
  | propelL | propelR | retardTqL | retardTqR | retardPower | speed
deriving DecidableEq, Repr

/-- What an envelope field that is not OPEN holds (R35). -/
structure Bound where
  value  : Nat
  source : Source
  slot   : Nat
deriving DecidableEq, Repr

/-- The envelope (R35); `none` is OPEN. -/
structure Envelope where
  propelL     : Option Bound
  propelR     : Option Bound
  retardTqL   : Option Bound
  retardTqR   : Option Bound
  retardPower : Option Bound
  speed       : Option Bound
deriving DecidableEq, Repr

/-- The Envelope Unit: the 32 slots (R20), the counts (R22), the post order counter (R23) and the
envelope (R35). -/
structure LimitUnit where
  slots     : List (Option Contribution)
  counts    : PerPort Nat
  poolCount : Nat
  nextOrder : Serial
  envelope  : Envelope
deriving DecidableEq, Repr

/-! ### Authority Unit -/

/-- Condition of authority (R44). -/
inductive AuthState
  | vacant | held | handover
deriving DecidableEq, Repr

/-- The authority record (R44). -/
structure AuthRecord where
  state    : AuthState
  holder   : Option Party
  claimant : Option Party
  bidder   : Option Party
  deadline : Timer
deriving DecidableEq, Repr

/-- Selected direction of travel (R57), also the axle direction (R66). -/
inductive Direction
  | neutral | forward | reverse
deriving DecidableEq, Repr

/-- Freshness of a demand (R57), a Cab status (R133) or a drive report (R148). -/
inductive Freshness
  | fresh | stale
deriving DecidableEq, Repr

/-- A demand record (R57). -/
structure Demand where
  direction : Direction
  propel    : Nat
  retard    : Nat
  setpoint  : Option Nat
  freshness : Freshness
  lifetime  : Timer
deriving DecidableEq, Repr

/-- The Authority Unit (R44, R57). -/
structure AuthorityUnit where
  record  : AuthRecord
  demands : PerParty Demand
deriving DecidableEq, Repr

/-! ### Effort Resolver -/

/-- Mode of a grant (R72, R84). -/
inductive GrantMode
  | neutral | propel | retard
deriving DecidableEq, Repr

/-- The reason that bound a grant (R83). -/
inductive Binding
  | zero | request | capability | limit | taper | powerShare | slew
deriving DecidableEq, Repr

/-- The fields of a grant record that stand once for each wheel (R84). -/
structure WheelGrant where
  torque        : Nat
  cap           : Nat
  capability    : Nat
  speedUsed     : Nat
  binding       : Binding
  bindingSource : Option Source
deriving DecidableEq, Repr

/-- The grant record (R84). -/
structure Grant where
  pass          : Serial
  mode          : GrantMode
  axle          : Direction
  wheels        : PerWheel WheelGrant
  demandStale   : Bool
  handover      : Bool
  holdEngaged   : Bool
  brakeLine     : Bool
  directionHeld : Bool
  forced        : Bool
deriving DecidableEq, Repr

/-- The Effort Resolver (R66). -/
structure Resolver where
  timer    : Timer
  axle     : Direction
  pass     : Serial
  last     : Grant
  previous : Grant
deriving DecidableEq, Repr

/-! ### Governor mode -/

/-- The governor mode (R168). -/
inductive GovMode
  | config | ready | active | inhibit
deriving DecidableEq, Repr

/-! ### Grade Hold Unit -/

/-- What the Grade Hold Unit keeps of the last publication taken (R91). -/
structure HoldGrant where
  mode  : GrantMode
  bindL : Binding
  bindR : Binding
  pass  : Serial
deriving DecidableEq, Repr

/-- The hold context (R91). -/
structure HoldContext where
  demandSource : Option Nat
  capSource    : Option Nat
  staleSource  : Option Nat
  staleOwner   : Option Party
  setpoint     : Option Nat
  integral     : Nat
  bHold        : Nat
  lastError    : Int
  windupHeld   : Bool
  lastGrant    : HoldGrant
  modeSeen     : GovMode
  timer        : Timer
deriving DecidableEq, Repr

/-- The brake record (R101); the line is asserted while `asserted` is true. -/
structure BrakeRecord where
  overspeed      : Bool
  noRetard       : Bool
  overspeedTimer : Timer
  noRetardTimer  : Timer
  gridSeen       : Nat
  asserted       : Bool
deriving DecidableEq, Repr

/-- The Grade Hold Unit (R91, R101). -/
structure HoldUnit where
  ctx   : HoldContext
  brake : BrakeRecord
deriving DecidableEq, Repr

/-! ### Grid Drive Unit -/

/-- Condition of a bank's contactor (R108). -/
inductive Contactor
  | open | closing | closed | opening | failed
deriving DecidableEq, Repr

/-- Why a bank failed (R108). -/
inductive FailCause
  | noClose | dropped | welded
deriving DecidableEq, Repr

/-- Ladder levels of a thermal integrator (R151). -/
inductive Level
  | normal | warm | derate | trip
deriving DecidableEq, Repr

/-- A bank record (R108) with its chopper gate output and the rest of its on-time (R121). -/
structure Bank where
  contactor       : Contactor
  failure         : Option FailCause
  command         : Bool
  feedback        : Bool
  handshake       : Timer
  openPending     : Bool
  dutyPending     : Nat
  dutyActive      : Nat
  enableRequested : Bool
  enableActive    : Bool
  dump            : Bool
  levelSeen       : Level
  derateSeen      : Nat
  avail           : Nat
  share           : Nat
  boundary        : Timer
  gate            : Bool
  onTime          : Timer
deriving DecidableEq, Repr

/-- The Grid Drive Unit (R108, R109). -/
structure GridUnit where
  banks     : PerBank Bank
  modeSeen  : GovMode
  committed : Bool
  dumpOn    : Bool
  gridValue : Nat
  lastPass  : Serial
  lastMode  : GrantMode
  pReq      : Nat
  pDis      : Nat
  vUsed     : Nat
deriving DecidableEq, Repr

/-! ### Steering Monitor -/

/-- The wheel on the inside of the turn (R130). -/
inductive Inner
  | none | left | right
deriving DecidableEq, Repr

/-- Steering hydraulic supply (R133). -/
inductive Supply
  | normal | lowPrecharge | lowPressure
deriving DecidableEq, Repr

/-- Park brake as reported (R133). -/
inductive ParkBrake
  | released | applied
deriving DecidableEq, Repr

/-- The Cab status record (R133). -/
structure CabStatus where
  payload   : Nat
  supply    : Supply
  parkBrake : ParkBrake
  freshness : Freshness
  lifetime  : Timer
deriving DecidableEq, Repr

/-- Condition of a wheel's slip record (R137). -/
inductive SlipState
  | normal | suspect | slipping | recovering
deriving DecidableEq, Repr

/-- The two grant modes in which a slip can be detected (R137). -/
inductive DriveMode
  | propel | retard
deriving DecidableEq, Repr

/-- A slip record (R137). -/
structure SlipRecord where
  state     : SlipState
  modeAt    : Option DriveMode
  cap       : Option Nat
  expected  : Nat
  deviation : Int
deriving DecidableEq, Repr

/-- What the Steering Monitor keeps of the last publication taken (R138). -/
structure SteerGrant where
  mode       : GrantMode
  torque     : PerWheel Nat
  capability : PerWheel Nat
  pass       : Serial
deriving DecidableEq, Repr

/-- The Steering Monitor (R130, R133, R137, R138). -/
structure SteeringUnit where
  angleUsed      : Int
  angleStateUsed : AngleState
  ratio          : Nat
  inner          : Inner
  shares         : PerWheel Nat
  steerValue     : Option Nat
  committed      : Bool
  timer          : Timer
  cab            : CabStatus
  slips          : PerWheel SlipRecord
  lastGrant      : SteerGrant
deriving DecidableEq, Repr

/-! ### Overload Monitor -/

/-- The drive report (R148). -/
structure DriveReport where
  ready     : PerWheel Bool
  current   : PerWheel Nat
  freshness : Freshness
  lifetime  : Timer
deriving DecidableEq, Repr

/-- A thermal integrator (R151). -/
structure Integrator where
  heat     : Nat
  theta    : Nat
  lastLoad : Nat
  level    : Level
  dwell    : Timer
  derate   : Nat
deriving DecidableEq, Repr

/-- Payload levels (R161). -/
inductive PayloadLevel
  | none | over1 | over2 | over3
deriving DecidableEq, Repr

/-- The payload record (R161). -/
structure PayloadRecord where
  payload : Nat
  ratio   : Nat
  level   : PayloadLevel
  cap     : Option Nat
deriving DecidableEq, Repr

/-- A link gate's result as link protection takes it (R163). -/
inductive GateResult
  | good (v : Nat)
  | senseLost
deriving DecidableEq, Repr

/-- The link protection record (R163). -/
structure LinkProtection where
  dump     : Bool
  overRun  : Nat
  lostRun  : Nat
  lastGate : GateResult
deriving DecidableEq, Repr

/-- The Overload Monitor (R148, R151, R161, R163). -/
structure OverloadUnit where
  report      : DriveReport
  integrators : PerElement Integrator
  payload     : PayloadRecord
  link        : LinkProtection
  timer       : Timer
deriving DecidableEq, Repr

/-! ### Governor Control -/

/-- The trip causes (R168). -/
inductive TripCause
  | linkOvervoltage | linkSenseLost | speedSenseLost | motorLThermal | motorRThermal
  | grid1Thermal | grid2Thermal | grid1Contactor | grid2Contactor
deriving DecidableEq, Repr

/-- The classes of trip causes (R168). -/
inductive TripClass
  | drive | propel | grid
deriving DecidableEq, Repr

/-- The first-cause record (R168, R172). -/
structure FirstCause where
  cause  : TripCause
  mode   : GovMode
  v      : Nat
  vValid : Bool
  pass   : Serial
deriving DecidableEq, Repr

/-- Sources of a reset (R178). -/
inductive ResetCause
  | powerOn | resetLine
deriving DecidableEq, Repr

/-- Governor Control (R168). The trip set is a list of distinct causes in the order of their codes. -/
structure Governor where
  mode          : GovMode
  previous      : Option GovMode
  authorityHeld : Bool
  trips         : List TripCause
  firstCause    : Option FirstCause
  resetCause    : ResetCause
deriving DecidableEq, Repr

/-! ### Profile Store -/

/-- An entry of the drive profile (R179). -/
inductive Entry
  | scalar (value : Nat)
  | point (speed torque : Nat)
deriving DecidableEq, Repr

/-- The Profile Store: the committed flag and the thirteen sections (R179). -/
structure Profile where
  committed : Bool
  sections  : List (List Entry)
deriving DecidableEq, Repr

/-! ### Master Port Unit -/

/-- Cause of a change of the authority record (R55). -/
inductive AuthCause
  | claimCab | claimSupervisor | releaseCab | releaseSupervisor | yielded | deadline
deriving DecidableEq, Repr

/-- A party's role when its demand goes stale (R59). -/
inductive Role
  | holder | claimant | bidder | none
deriving DecidableEq, Repr

/-- Cause of a change of a thermal level (R160). -/
inductive LevelCause
  | rise | dwell | clear
deriving DecidableEq, Repr

/-- Cause of a change of a slip state (R145). -/
inductive SlipCause
  | trigger | clear | belowOff | restored | suspended | modeChange
deriving DecidableEq, Repr

/-- Cause of a change of a contactor state (R118). -/
inductive BankCause
  | mode | thermal | feedback | timeout | boundary | clear
deriving DecidableEq, Repr

/-- What a TRIP notice reports (R172). -/
inductive TripAction
  | latched | cleared
deriving DecidableEq, Repr

/-- Cause of a change of governor mode (R170); cause TRIP carries the cause that was latched. -/
inductive ModeCause
  | commit | authorityHeld | authorityVacant
  | trip (cause : TripCause)
  | clear
deriving DecidableEq, Repr

/-- A notice (R197), one constructor per kind; REPORT_STALE has one for each of its two reports. -/
inductive Notice
  | envelope (field : EnvField) (bound : Option (Nat × Source))
  | limitExpired (slot : Nat) (entry : Contribution)
  | authority (cause : AuthCause) (state : AuthState) (holder claimant : Option Party) (bid : Bool)
  | demandStale (party : Party) (role : Role) (direction : Direction) (retard : Nat)
  | driveStale (ready : PerWheel Bool) (current : PerWheel Nat)
  | cabStale (supply : Supply) (parkBrake : ParkBrake)
  | level (element : Element) (level : Level) (theta derate : Nat) (cause : LevelCause)
  | payload (level : PayloadLevel) (ratio payload : Nat) (cap : Option Nat)
  | slip (wheel : Wheel) (state : SlipState) (modeAt : Option DriveMode) (cap : Option Nat)
      (deviation : Int) (cause : SlipCause)
  | bank (bank : BankId) (state : Contactor) (failure : Option FailCause) (feedback : Bool)
      (avail : Nat) (cause : BankCause)
  | brake (asserted overspeed noRetard : Bool) (modeSeen : GovMode)
  | trip (cause : TripCause) (action : TripAction) (count : Nat) (mode : GovMode)
  | mode (new : GovMode) (previous : GovMode) (cause : ModeCause)
deriving DecidableEq, Repr

/-- A response frame (R196): the status byte, the code echo, and the result bytes, of which the
first is the answer code; the length byte is their number. -/
structure Response where
  status : Byte
  echo   : Byte
  result : List Byte
deriving DecidableEq, Repr

/-- A port record (R187), with `sdo`, the bytes the port clocked out in its last transaction (R188). -/
structure PortRecord where
  response   : Response
  queue      : List Notice
  mask       : BitVec 12
  threshold  : Nat
  overflow   : Bool
  lineActive : Bool
  sdo        : List Byte
deriving DecidableEq, Repr

/-- The Master Port Unit (R187). -/
structure PortUnit where
  recs  : PerPort PortRecord
  strap : Strap
deriving DecidableEq, Repr

/-! ### The governor -/

/-- The state of the governor: the commands waiting, the reset in progress if there is one, the
eleven blocks, and the model's own count of the free values it has drawn. -/
structure State where
  pending   : List Instr
  resetting : Option ResetCause
  capture   : Capture
  limits    : LimitUnit
  authority : AuthorityUnit
  resolver  : Resolver
  hold      : HoldUnit
  grid      : GridUnit
  steering  : SteeringUnit
  overload  : OverloadUnit
  governor  : Governor
  profile   : Profile
  ports     : PortUnit
  draws     : Nat
deriving DecidableEq, Repr

/-- Why a command stops the machine: never. No rule of the manual names an event that halts the
governor: a trip is latched and the governor goes on (R172), a request is answered with a refusal code
and the governor goes on (introduction, *Units and conventions*). The type has no constructor. -/
inductive Fault
deriving DecidableEq, Repr

/-- Why a command has no meaning. -/
inductive Refusal
  /-- Raised by `exec` for a command that has no meaning yet (no arm of it does so). Safe: it stops. -/
  | notModelled (mnemonic : String)
  /-- Raised by TRUNCATED and UNKNOWN_REQUEST for operands that are not of that row: bytes that hold a
  complete frame (R188), or a code that the request table holds (R189). No port can carry such a
  command under that name. Safe: it stops. -/
  | illFormed
deriving DecidableEq, Repr

/-- What a command answers. -/
abbrev Result := Host.Outcome State Fault Refusal

/-! ### Changing one block -/

/-- The state with another queue of waiting commands. -/
def State.withPending (s : State) (x : List Instr) : State := { s with pending := x }
/-- The state with another reset in progress. -/
def State.withResetting (s : State) (x : Option ResetCause) : State := { s with resetting := x }
/-- The state with another Capture Unit. -/
def State.withCapture (s : State) (x : Capture) : State := { s with capture := x }
/-- The state with another Envelope Unit. -/
def State.withLimits (s : State) (x : LimitUnit) : State := { s with limits := x }
/-- The state with another Authority Unit. -/
def State.withAuthority (s : State) (x : AuthorityUnit) : State := { s with authority := x }
/-- The state with another Effort Resolver. -/
def State.withResolver (s : State) (x : Resolver) : State := { s with resolver := x }
/-- The state with another Grade Hold Unit. -/
def State.withHold (s : State) (x : HoldUnit) : State := { s with hold := x }
/-- The state with another Grid Drive Unit. -/
def State.withGrid (s : State) (x : GridUnit) : State := { s with grid := x }
/-- The state with another Steering Monitor. -/
def State.withSteering (s : State) (x : SteeringUnit) : State := { s with steering := x }
/-- The state with another Overload Monitor. -/
def State.withOverload (s : State) (x : OverloadUnit) : State := { s with overload := x }
/-- The state with another Governor Control. -/
def State.withGovernor (s : State) (x : Governor) : State := { s with governor := x }
/-- The state with another Profile Store. -/
def State.withProfile (s : State) (x : Profile) : State := { s with profile := x }
/-- The state with another Master Port Unit. -/
def State.withPorts (s : State) (x : PortUnit) : State := { s with ports := x }
/-- The state with another count of free values drawn. -/
def State.withDraws (s : State) (x : Nat) : State := { s with draws := x }

/-! ### After reset -/

/-- A wheel channel after reset (R2). -/
def WheelChannel.reset : WheelChannel :=
  { state := .stopped, prevStamp := none, ring := [], rpm := 0, noiseRun := 0, clearRun := 0,
    edgeTimer := none }

/-- The angle channel after reset (R9). -/
def AngleChannel.reset : AngleChannel :=
  { state := .fault, risingStamp := none, fallingStamp := none, period := 0, highTime := 0,
    duty := 0, angle := 0, outRun := 0, validRun := 0, edgeTimer := none }

/-- The link channel after reset; its 10 ms gate starts at reset (R13). -/
def LinkChannel.reset : LinkChannel :=
  { running := 0, lastCount := 0, v := 0, state := .lost, gateTimer := some 10000 }

/-- The Capture Unit after reset (R1, R15, R16, R17). -/
def Capture.reset : Capture :=
  { counter := 0, wheels := ⟨.reset, .reset⟩, angle := .reset, link := .reset, v := 0,
    vValid := false, stationary := false, lastPair := ⟨0, 0⟩ }

/-- The Envelope Unit after reset (R42). -/
def LimitUnit.reset : LimitUnit :=
  { slots := List.replicate 32 none, counts := ⟨0, 0, 0⟩, poolCount := 0, nextOrder := 0,
    envelope := ⟨none, none, none, none, none, none⟩ }

/-- A demand record after reset (R57). -/
def Demand.reset : Demand :=
  { direction := .neutral, propel := 0, retard := 0, setpoint := none, freshness := .stale,
    lifetime := none }

/-- The authority record after reset (R44). -/
def AuthRecord.reset : AuthRecord :=
  { state := .vacant, holder := none, claimant := none, bidder := none, deadline := none }

/-- The Authority Unit after reset (R65). -/
def AuthorityUnit.reset : AuthorityUnit := { record := .reset, demands := ⟨.reset, .reset⟩ }

/-- A wheel of the zero record (R66). -/
def WheelGrant.zero : WheelGrant :=
  { torque := 0, cap := 0, capability := 0, speedUsed := 0, binding := .zero, bindingSource := none }

/-- The zero record (R66). -/
def Grant.zero : Grant :=
  { pass := 0, mode := .neutral, axle := .neutral, wheels := ⟨.zero, .zero⟩, demandStale := false,
    handover := false, holdEngaged := false, brakeLine := true, directionHeld := false,
    forced := false }

/-- The Effort Resolver after reset (R66). -/
def Resolver.reset : Resolver :=
  { timer := none, axle := .neutral, pass := 0, last := .zero, previous := .zero }

/-- The hold context after reset (R91). -/
def HoldContext.reset : HoldContext :=
  { demandSource := none, capSource := none, staleSource := none, staleOwner := none,
    setpoint := none, integral := 0, bHold := 0, lastError := 0, windupHeld := false,
    lastGrant := ⟨.neutral, .zero, .zero, 0⟩, modeSeen := .config, timer := none }

/-- The brake record after reset (R101). -/
def BrakeRecord.reset : BrakeRecord :=
  { overspeed := false, noRetard := false, overspeedTimer := none, noRetardTimer := none,
    gridSeen := 0, asserted := true }

/-- The Grade Hold Unit after reset (R107). -/
def HoldUnit.reset : HoldUnit := { ctx := .reset, brake := .reset }

/-- A bank record after reset (R108). The feedback takes the input's level as the reset ends: absent
here, a DESIGN CHOICE for the state right after reset (assumption log 1). -/
def Bank.reset : Bank :=
  { contactor := .open, failure := none, command := false, feedback := false, handshake := none,
    openPending := false, dutyPending := 0, dutyActive := 0, enableRequested := false,
    enableActive := false, dump := false, levelSeen := .normal, derateSeen := 1000, avail := 0,
    share := 0, boundary := none, gate := false, onTime := none }

/-- The Grid Drive Unit after reset (R109). -/
def GridUnit.reset : GridUnit :=
  { banks := ⟨.reset, .reset⟩, modeSeen := .config, committed := false, dumpOn := false,
    gridValue := 0, lastPass := 0, lastMode := .neutral, pReq := 0, pDis := 0, vUsed := 0 }

/-- The Cab status record after reset (R133). -/
def CabStatus.reset : CabStatus :=
  { payload := 0, supply := .normal, parkBrake := .applied, freshness := .stale, lifetime := none }

/-- A slip record after reset (R137). -/
def SlipRecord.reset : SlipRecord :=
  { state := .normal, modeAt := none, cap := none, expected := 0, deviation := 0 }

/-- The Steering Monitor after reset (R130, R138, R147). -/
def SteeringUnit.reset : SteeringUnit :=
  { angleUsed := 0, angleStateUsed := .fault, ratio := 1000, inner := .none, shares := ⟨500, 500⟩,
    steerValue := none, committed := false, timer := none, cab := .reset,
    slips := ⟨.reset, .reset⟩, lastGrant := ⟨.neutral, ⟨0, 0⟩, ⟨0, 0⟩, 0⟩ }

/-- An integrator after reset (R151). -/
def Integrator.reset : Integrator :=
  { heat := 0, theta := 0, lastLoad := 0, level := .normal, dwell := none, derate := 1000 }

/-- The Overload Monitor after reset (R148, R161, R163, R167). -/
def OverloadUnit.reset : OverloadUnit :=
  { report := { ready := ⟨false, false⟩, current := ⟨0, 0⟩, freshness := .stale, lifetime := none },
    integrators := ⟨.reset, .reset, .reset, .reset⟩,
    payload := { payload := 0, ratio := 0, level := .none, cap := none },
    link := { dump := false, overRun := 0, lostRun := 0, lastGate := .senseLost },
    timer := none }

/-- Governor Control after a reset from the given source (R168, R177, R178). -/
def Governor.reset (cause : ResetCause) : Governor :=
  { mode := .config, previous := none, authorityHeld := false, trips := [], firstCause := none,
    resetCause := cause }

/-- A torque table after reset: the breakpoint count and sixteen breakpoints, all 0 (R179). -/
def Profile.zeroTable : List Entry := .scalar 0 :: List.replicate 16 (.point 0 0)

/-- The Profile Store after reset: every entry 0 and the committed flag clear (R179, R186). -/
def Profile.reset : Profile :=
  { committed := false
    sections :=
      [List.replicate 5 (.scalar 0), zeroTable, zeroTable, List.replicate 3 (.scalar 0),
       List.replicate 11 (.scalar 0), List.replicate 10 (.scalar 0), List.replicate 10 (.scalar 0),
       List.replicate 3 (.scalar 0), List.replicate 1 (.scalar 0), List.replicate 6 (.scalar 0),
       List.replicate 25 (.scalar 0), List.replicate 7 (.scalar 0), List.replicate 2 (.scalar 0)] }

/-- The NONE response: code echo FFH, length 1, answer NONE (R190). Its status byte is formed at the
reset: CONFIG, no flag set, bit 7 set (DEDUCED, assumption log 10). -/
def Response.noResponse : Response := { status := 0x80, echo := 0xFF, result := [0xFF] }

/-- A port record after reset (R187). -/
def PortRecord.reset : PortRecord :=
  { response := .noResponse, queue := [], mask := BitVec.allOnes 12, threshold := 1,
    overflow := false, lineActive := false, sdo := [] }

/-- The governor right after a power-on reset has ended, with the strap read as fitted and both
contactor feedbacks absent (DESIGN CHOICE, assumption log 1). -/
def State.reset : State :=
  { pending := [], resetting := none, capture := .reset, limits := .reset, authority := .reset,
    resolver := .reset, hold := .reset, grid := .reset, steering := .reset, overload := .reset,
    governor := .reset .powerOn, profile := .reset,
    ports := { recs := ⟨.reset, .reset, .reset⟩, strap := .fitted }, draws := 0 }

end Sys2Proof.Machine
end

