-- ==== Sys2Proof/Machine/Ops.lean ====
section
/-! DEFINITION. The named operations every block uses: reading and writing the value of one wheel,
bank, port, party or element; timers; rounding and clamping (introduction, *Units and conventions*);
the bytes of a wire value (R191, R197); and the two ways an event reaches a block (an event while no
reset is in progress, the expiry of a running timer). -/

namespace Sys2Proof.Machine

/-! ### One of a pair -/

/-- The value of a wheel. -/
def PerWheel.get {α : Type} (p : PerWheel α) : Wheel → α
  | .left => p.left
  | .right => p.right

/-- The pair with a wheel's value replaced. -/
def PerWheel.set {α : Type} (p : PerWheel α) (w : Wheel) (x : α) : PerWheel α :=
  match w with
  | .left => { p with left := x }
  | .right => { p with right := x }

/-- The wheel on the other side. -/
def otherWheel : Wheel → Wheel
  | .left => .right
  | .right => .left

/-- The value of a bank. -/
def PerBank.get {α : Type} (p : PerBank α) : BankId → α
  | .one => p.one
  | .two => p.two

/-- The pair with a bank's value replaced. -/
def PerBank.set {α : Type} (p : PerBank α) (b : BankId) (x : α) : PerBank α :=
  match b with
  | .one => { p with one := x }
  | .two => { p with two := x }

/-- The value of a port. -/
def PerPort.get {α : Type} (t : PerPort α) : Port → α
  | .i => t.i
  | .c => t.c
  | .s => t.s

/-- The triple with a port's value replaced. -/
def PerPort.set {α : Type} (t : PerPort α) (p : Port) (x : α) : PerPort α :=
  match p with
  | .i => { t with i := x }
  | .c => { t with c := x }
  | .s => { t with s := x }

/-- The value of a party. -/
def PerParty.get {α : Type} (t : PerParty α) : Party → α
  | .cab => t.cab
  | .supervisor => t.supervisor

/-- The pair with a party's value replaced. -/
def PerParty.set {α : Type} (t : PerParty α) (x : Party) (v : α) : PerParty α :=
  match x with
  | .cab => { t with cab := v }
  | .supervisor => { t with supervisor := v }

/-- The value of a heated element. -/
def PerElement.get {α : Type} (t : PerElement α) : Element → α
  | .ml => t.ml
  | .mr => t.mr
  | .g1 => t.g1
  | .g2 => t.g2

/-- The four values with an element's replaced. -/
def PerElement.set {α : Type} (t : PerElement α) (e : Element) (x : α) : PerElement α :=
  match e with
  | .ml => { t with ml := x }
  | .mr => { t with mr := x }
  | .g1 => { t with g1 := x }
  | .g2 => { t with g2 := x }

/-! ### Timers -/

/-- A timer started with so many milliseconds. -/
def startMs (n : Nat) : Timer := some (n * 1000)

/-- A timer started with so many microseconds. -/
def startUs (n : Nat) : Timer := some n

/-- A timer after one microsecond: a running timer has one microsecond less, down to 0; a stopped one
stays stopped. -/
def tickTimer : Timer → Timer
  | some (n + 1) => some n
  | t => t

/-- Whether a timer has run out and its expiry is to be taken. -/
def isDue (t : Timer) : Bool := t == some 0

/-- The remaining time of a timer in whole ms, rounded down; 0 when it is stopped (R30, R54). -/
def leftMs : Timer → Nat
  | some n => n / 1000
  | none => 0

/-! ### Arithmetic -/

/-- A value outside its range replaced by the nearest end (introduction, *Clamped*). -/
def clampNat (lo hi n : Nat) : Nat := max lo (min hi n)

/-- A signed value clamped to a range of naturals. -/
def clampInt (lo hi : Nat) (n : Int) : Nat := (max (lo : Int) (min (hi : Int) n)).toNat

/-- A division rounded up: the chopper duty alone (R126). -/
def ceilDiv (a b : Nat) : Nat := (a + b - 1) / b

/-- The smallest value of a list, nothing for the empty list. -/
def smallest : List Nat → Option Nat
  | [] => none
  | x :: xs => some (xs.foldl min x)

/-- The values present in a list. -/
def present (xs : List (Option Nat)) : List Nat := xs.filterMap id

/-! ### Bytes on the wire -/

/-- A value in one byte. -/
def byte1 (n : Nat) : List Byte := [BitVec.ofNat 8 n]

/-- A value in two bytes, most significant first (R191). -/
def byte2 (n : Nat) : List Byte := [BitVec.ofNat 8 (n / 256), BitVec.ofNat 8 n]

/-- A value in four bytes, most significant first (R191). -/
def byte4 (n : Nat) : List Byte :=
  [BitVec.ofNat 8 (n / 16777216), BitVec.ofNat 8 (n / 65536), BitVec.ofNat 8 (n / 256),
   BitVec.ofNat 8 n]

/-- A signed value in two bytes, in two's complement (R191, R197). -/
def byte2s (n : Int) : List Byte := byte2 (n % 65536).toNat

/-- A flag: 00H when clear and 01H when set (R197). -/
def byteFlag (b : Bool) : List Byte := [if b then 0x01 else 0x00]

/-- An optional one-byte value, all ones when absent (R191). -/
def byte1? : Option Nat → List Byte
  | some n => byte1 n
  | none => [0xFF]

/-- An optional two-byte value, all ones when absent (R191). -/
def byte2? : Option Nat → List Byte
  | some n => byte2 n
  | none => [0xFF, 0xFF]

/-- The number two argument bytes carry, most significant byte first (R191). -/
def word16 (hi lo : Byte) : Nat := hi.toNat * 256 + lo.toNat

/-- The number four argument bytes carry, most significant byte first (R180). -/
def word32 (b3 b2 b1 b0 : Byte) : Nat := word16 b3 b2 * 65536 + word16 b1 b0

/-! ### How an event reaches its block -/

/-- An event taken while no reset is in progress has its effect. During a reset every block stays at
its reset values and takes nothing (R177, R178; assumption log 5). -/
def whenLive (effect : State → State) (s : State) : Result :=
  .next (if s.resetting.isSome then s else effect s)

/-- The expiry of a timer: it has its effect while the timer runs. A stopped timer does not expire
(R8, R59, R150 and the other rules of timers; assumption log 6). -/
def whenRunning (t : State → Timer) (effect : State → State) (s : State) : Result :=
  whenLive (fun s => if (t s).isSome then effect s else s) s

end Sys2Proof.Machine
end

