-- ==== Sys2Proof/Machine/Codes.lean ====
section
/-! DEFINITION. The codes a master sees on the wire: the tables of R20, R168, R182, R190, R192 and
R197, and for the other enumerations their number from 00H in the order their owning rule lists them
(R197; assumption log 11). -/

namespace Sys2Proof.Machine

/-- Ports by the order I, C, S; a party is named by 00H CAB, 01H SUPERVISOR (R192). -/
def partyCode : Party → Nat
  | .cab => 0
  | .supervisor => 1

/-- Source codes (R20). -/
def Source.code : Source → Nat
  | .trip => 0x00
  | .grid => 0x01
  | .steer => 0x02
  | .payload => 0x03
  | .slipL => 0x04
  | .slipR => 0x05
  | .thermalML => 0x06
  | .thermalMR => 0x07
  | .inverter => 0x08
  | .cab => 0x09
  | .supervisor => 0x0A

/-- Kind codes (R20). -/
def Kind.code : Kind → Nat
  | .propelTorque => 0
  | .retardTorque => 1
  | .retardPower => 2
  | .speed => 3

/-- Scope codes (R20). -/
def Scope.code : Scope → Nat
  | .left => 0
  | .right => 1
  | .axle => 2

/-- The kind a code names, if it names one (R20). -/
def kindOf? : Nat → Option Kind
  | 0 => some .propelTorque
  | 1 => some .retardTorque
  | 2 => some .retardPower
  | 3 => some .speed
  | _ => none

/-- The scope a code names, if it names one (R20). -/
def scopeOf? : Nat → Option Scope
  | 0 => some .left
  | 1 => some .right
  | 2 => some .axle
  | _ => none

/-- Envelope field codes (R20). -/
def EnvField.code : EnvField → Nat
  | .propelL => 0
  | .propelR => 1
  | .retardTqL => 2
  | .retardTqR => 3
  | .retardPower => 4
  | .speed => 5

/-- Wheel-channel states, in the order of R2. -/
def WheelState.code : WheelState → Nat
  | .stopped => 0
  | .turning => 1
  | .fault => 2

/-- Angle-channel states, in the order of R9. -/
def AngleState.code : AngleState → Nat
  | .ok => 0
  | .fault => 1

/-- Link-channel states, in the order of R13. -/
def LinkState.code : LinkState → Nat
  | .ok => 0
  | .lost => 1

/-- Authority states, in the order of R44. -/
def AuthState.code : AuthState → Nat
  | .vacant => 0
  | .held => 1
  | .handover => 2

/-- Direction codes (R58, R197). -/
def Direction.code : Direction → Nat
  | .neutral => 0
  | .forward => 1
  | .reverse => 2

/-- The direction a code names, if it names one (R58). -/
def directionOf? : Nat → Option Direction
  | 0 => some .neutral
  | 1 => some .forward
  | 2 => some .reverse
  | _ => none

/-- Freshness, in the order of R57. -/
def Freshness.code : Freshness → Nat
  | .fresh => 0
  | .stale => 1

/-- Grant mode codes (R197). -/
def GrantMode.code : GrantMode → Nat
  | .neutral => 0
  | .propel => 1
  | .retard => 2

/-- The mode at detection, by the mode codes of R197. -/
def DriveMode.code : DriveMode → Nat
  | .propel => 1
  | .retard => 2

/-- Binding codes (R197). -/
def Binding.code : Binding → Nat
  | .zero => 0
  | .request => 1
  | .capability => 2
  | .limit => 3
  | .taper => 4
  | .powerShare => 5
  | .slew => 6

/-- Governor modes, by the status byte coding (R196). -/
def GovMode.code : GovMode → Nat
  | .config => 0
  | .ready => 1
  | .active => 2
  | .inhibit => 3

/-- Contactor states, in the order of R108. -/
def Contactor.code : Contactor → Nat
  | .open => 0
  | .closing => 1
  | .closed => 2
  | .opening => 3
  | .failed => 4

/-- Failure causes, in the order of R108. -/
def FailCause.code : FailCause → Nat
  | .noClose => 0
  | .dropped => 1
  | .welded => 2

/-- Thermal levels, in the order of R151. -/
def Level.code : Level → Nat
  | .normal => 0
  | .warm => 1
  | .derate => 2
  | .trip => 3

/-- Inner wheel, in the order of R130. -/
def Inner.code : Inner → Nat
  | .none => 0
  | .left => 1
  | .right => 2

/-- Supply codes (R134). -/
def Supply.code : Supply → Nat
  | .normal => 0
  | .lowPrecharge => 1
  | .lowPressure => 2

/-- The supply a code names, if it names one (R134). -/
def supplyOf? : Nat → Option Supply
  | 0 => some .normal
  | 1 => some .lowPrecharge
  | 2 => some .lowPressure
  | _ => none

/-- Park-brake codes (R134). -/
def ParkBrake.code : ParkBrake → Nat
  | .released => 0
  | .applied => 1

/-- The park brake a code names, if it names one (R134). -/
def parkBrakeOf? : Nat → Option ParkBrake
  | 0 => some .released
  | 1 => some .applied
  | _ => none

/-- The ready flag a code names, if it names one: 00H NOT_READY, 01H READY (R149). -/
def readyOf? : Nat → Option Bool
  | 0 => some false
  | 1 => some true
  | _ => none

/-- Slip states, in the order of R137. -/
def SlipState.code : SlipState → Nat
  | .normal => 0
  | .suspect => 1
  | .slipping => 2
  | .recovering => 3

/-- Payload levels (R161). -/
def PayloadLevel.code : PayloadLevel → Nat
  | .none => 0
  | .over1 => 1
  | .over2 => 2
  | .over3 => 3

/-- Trip cause codes (R168). -/
def TripCause.code : TripCause → Nat
  | .linkOvervoltage => 0x00
  | .linkSenseLost => 0x01
  | .speedSenseLost => 0x02
  | .motorLThermal => 0x03
  | .motorRThermal => 0x04
  | .grid1Thermal => 0x05
  | .grid2Thermal => 0x06
  | .grid1Contactor => 0x07
  | .grid2Contactor => 0x08

/-- Trip class codes (R197). -/
def TripClass.code : TripClass → Nat
  | .drive => 0
  | .propel => 1
  | .grid => 2

/-- Reset causes, in the order of R168. -/
def ResetCause.code : ResetCause → Nat
  | .powerOn => 0
  | .resetLine => 1

/-- The strap, in the order of R187. -/
def strapCode : Strap → Nat
  | .fitted => 0
  | .notFitted => 1

/-- Causes of AUTHORITY notices, in the order of R55. -/
def AuthCause.code : AuthCause → Nat
  | .claimCab => 0
  | .claimSupervisor => 1
  | .releaseCab => 2
  | .releaseSupervisor => 3
  | .yielded => 4
  | .deadline => 5

/-- Roles, in the order of R59. -/
def Role.code : Role → Nat
  | .holder => 0
  | .claimant => 1
  | .bidder => 2
  | .none => 3

/-- Elements, in the order of R160. -/
def elementCode : Element → Nat
  | .ml => 0
  | .mr => 1
  | .g1 => 2
  | .g2 => 3

/-- Causes of LEVEL notices, in the order of R160. -/
def LevelCause.code : LevelCause → Nat
  | .rise => 0
  | .dwell => 1
  | .clear => 2

/-- Causes of SLIP notices, in the order of R145. -/
def SlipCause.code : SlipCause → Nat
  | .trigger => 0
  | .clear => 1
  | .belowOff => 2
  | .restored => 3
  | .suspended => 4
  | .modeChange => 5

/-- Causes of BANK notices, in the order of R118. -/
def BankCause.code : BankCause → Nat
  | .mode => 0
  | .thermal => 1
  | .feedback => 2
  | .timeout => 3
  | .boundary => 4
  | .clear => 5

/-- Wheels on the wire: 00H LEFT, 01H RIGHT (R197). -/
def wheelCode : Wheel → Nat
  | .left => 0
  | .right => 1

/-- Banks on the wire: 01H or 02H (R197). -/
def bankCode : BankId → Nat
  | .one => 1
  | .two => 2

/-- Actions of TRIP notices: 00H LATCHED, 01H CLEARED (R197). -/
def TripAction.code : TripAction → Nat
  | .latched => 0
  | .cleared => 1

/-- Causes of MODE notices, in the order of R170. -/
def ModeCause.code : ModeCause → Nat
  | .commit => 0
  | .authorityHeld => 1
  | .authorityVacant => 2
  | .trip _ => 3
  | .clear => 4

/-- The classes of the causes (R168). -/
def TripCause.tripClass : TripCause → TripClass
  | .linkOvervoltage => .drive
  | .linkSenseLost => .drive
  | .speedSenseLost => .propel
  | .motorLThermal => .propel
  | .motorRThermal => .propel
  | .grid1Thermal => .grid
  | .grid2Thermal => .grid
  | .grid1Contactor => .grid
  | .grid2Contactor => .grid

/-- Every cause, in the order of its code (R168). -/
def allCauses : List TripCause :=
  [.linkOvervoltage, .linkSenseLost, .speedSenseLost, .motorLThermal, .motorRThermal,
   .grid1Thermal, .grid2Thermal, .grid1Contactor, .grid2Contactor]

/-- The answer codes of R190. -/
inductive Answer
  | ok | partly | already | noneLatched
  | notPermitted | notFitted | truncated | unknownRequest | badValue | badScope | quota
  | tableFull | noSuch | notReady | moving | notHolder | noFreshDemand | operatorTakeover
  | locked | profileInvalid | noResponse
deriving DecidableEq, Repr

/-- The wire values of the answer codes (R190). -/
def Answer.code : Answer → Nat
  | .ok => 0x00
  | .partly => 0x01
  | .already => 0x02
  | .noneLatched => 0x03
  | .notPermitted => 0x10
  | .notFitted => 0x11
  | .truncated => 0x12
  | .unknownRequest => 0x13
  | .badValue => 0x14
  | .badScope => 0x15
  | .quota => 0x16
  | .tableFull => 0x17
  | .noSuch => 0x18
  | .notReady => 0x19
  | .moving => 0x1A
  | .notHolder => 0x1B
  | .noFreshDemand => 0x1C
  | .operatorTakeover => 0x1D
  | .locked => 0x1E
  | .profileInvalid => 0x1F
  | .noResponse => 0xFF

/-- The kind of a notice: its code on the wire (R197). -/
def Notice.kind : Notice → Nat
  | .envelope .. => 0x01
  | .limitExpired .. => 0x02
  | .authority .. => 0x03
  | .demandStale .. => 0x04
  | .driveStale .. => 0x05
  | .cabStale .. => 0x05
  | .level .. => 0x06
  | .payload .. => 0x07
  | .slip .. => 0x08
  | .bank .. => 0x09
  | .brake .. => 0x0A
  | .trip .. => 0x0B
  | .mode .. => 0x0C

/-- A signed value clamped to −32768..32767 (R197, SLIP). -/
def clampS16 (n : Int) : Int := max (-32768) (min 32767 n)

/-- Byte 1 of a notice entry, its subject (R197). -/
def Notice.subject : Notice → Nat
  | .envelope field _ => field.code
  | .limitExpired slot _ => slot
  | .authority cause .. => cause.code
  | .demandStale party .. => partyCode party
  | .driveStale .. => 0
  | .cabStale .. => 1
  | .level element .. => elementCode element
  | .payload lvl .. => lvl.code
  | .slip wheel .. => wheelCode wheel
  | .bank b .. => bankCode b
  | .brake asserted .. => if asserted then 1 else 0
  | .trip cause .. => cause.code
  | .mode new .. => new.code

/-- Bytes 2 onward of a notice entry, its content, before the unused bytes (R197). The feedback of a BANK
notice is sent as a flag, 01H when present, though R108 lists "present" first (DESIGN CHOICE, assumption
log 36). -/
def Notice.content : Notice → List Byte
  | .envelope _ none => byte1 1 ++ byte2 0 ++ byte1 0xFF
  | .envelope _ (some (value, source)) => byte1 0 ++ byte2 value ++ byte1 source.code
  | .limitExpired _ e =>
      byte1 e.kind.code ++ byte1 e.scope.code ++ byte2 e.value ++ byte1 e.reason ++
        byte2 e.order.toNat
  | .authority cause state holder claimant bid =>
      byte1 state.code ++ byte1? (holder.map partyCode) ++ byte1? (claimant.map partyCode) ++
        byteFlag bid ++ byteFlag (cause == .deadline)
  | .demandStale _ role direction retard =>
      byte1 role.code ++ byte1 direction.code ++ byte2 retard
  | .driveStale ready current =>
      byteFlag ready.left ++ byteFlag ready.right ++ byte2 current.left ++ byte2 current.right
  | .cabStale supply parkBrake => byte1 supply.code ++ byte1 parkBrake.code
  | .level _ lvl theta derate cause =>
      byte1 lvl.code ++ byte2 theta ++ byte2 derate ++ byte1 cause.code
  | .payload _ ratio weight cap => byte2 ratio ++ byte2 weight ++ byte2? cap
  | .slip _ state modeAt cap deviation cause =>
      byte1 state.code ++ byte1? (modeAt.map DriveMode.code) ++ byte2? cap ++
        byte2s (clampS16 deviation) ++ byte1 cause.code
  | .bank _ state failure feedback avail cause =>
      byte1 state.code ++ byte1? (failure.map FailCause.code) ++ byteFlag feedback ++
        byte2 avail ++ byte1 cause.code
  | .brake _ overspeed noRetard modeSeen =>
      byte1 ((if overspeed then 1 else 0) + (if noRetard then 2 else 0)) ++ byte1 modeSeen.code
  | .trip cause action count modeAfter =>
      byte1 cause.tripClass.code ++ byte1 action.code ++ byte1 count ++ byte1 modeAfter.code
  | .mode _ previous (.trip cause) => byte1 previous.code ++ byte1 3 ++ byte1 cause.code
  | .mode _ previous cause => byte1 previous.code ++ byte1 cause.code ++ byte1 0xFF

/-- The ten bytes of a notice entry; unused bytes are 00H (R197). -/
def Notice.wire (n : Notice) : List Byte :=
  let used := byte1 n.kind ++ byte1 n.subject ++ n.content
  used ++ List.replicate (10 - used.length) 0x00

/-- An entry of kind NONE: all 00H (R197). -/
def emptyEntry : List Byte := List.replicate 10 0x00

end Sys2Proof.Machine
end

