-- ==== Sys2Proof/Machine/Profile.lean ====
section
/-! DEFINITION. The Profile Store's entries: their ranges (R179), reading and storing one, the named
constants the other blocks read, and the checks of the commit (R182). -/

namespace Sys2Proof.Machine

/-- What an entry of the profile may hold (R179): a scalar in a range, the breakpoint count of a
table, or a breakpoint. -/
inductive EntrySpec
  | scalar (lo hi : Nat)
  | count
  | point
deriving DecidableEq, Repr

/-- The entries of a torque table (R179): the count and breakpoints 1 to 16. -/
def tableSpec : List EntrySpec := .count :: List.replicate 16 .point

/-- Entries 2 to 9 of GRID 1 and GRID 2, and of MOTOR (R179): τ, warm_on, derate_on, trip_on, h,
dwell, d_min, θ_init. -/
def thermalSpec : List EntrySpec :=
  [.scalar 10 36000, .scalar 100 1999, .scalar 100 1999, .scalar 100 1999, .scalar 0 500,
   .scalar 1000 600000, .scalar 0 1000, .scalar 0 1000]

/-- The thirteen sections, 00H WHEEL to 0CH TIMING (R179). -/
def profileSpec : List (List EntrySpec) :=
  [ -- 00H WHEEL
    [.scalar 30 240, .scalar 50 500, .scalar 1000 4000, .scalar 100 2000, .scalar 20 300],
    -- 01H PROPEL TABLE, 02H RETARD TABLE
    tableSpec, tableSpec,
    -- 03H SLEW
    [.scalar 10 2000, .scalar 10 2000, .scalar 10 100],
    -- 04H MOTOR
    [.scalar 1000 32000, .scalar 100 5000] ++ thermalSpec ++ [.scalar 0 3000],
    -- 05H GRID 1, 06H GRID 2
    [.scalar 200 4000, .scalar 100 5000] ++ thermalSpec,
    [.scalar 200 4000, .scalar 100 5000] ++ thermalSpec,
    -- 07H LINK
    [.scalar 1000 2700, .scalar 1100 2800, .scalar 0 500],
    -- 08H CHOPPER
    [.scalar 1000 4000],
    -- 09H HOLD
    [.scalar 0 100, .scalar 0 5000, .scalar 0 1000000, .scalar 10 50, .scalar 200 5000, .scalar 5 50],
    -- 0AH STEERING
    List.replicate 16 (.scalar 500 1000) ++
      [.scalar 20 500, .scalar 0 499, .scalar 20 500, .scalar 0 499, .scalar 50 900,
       .scalar 10 2000, .scalar 0 700, .scalar 0 700, .scalar 0 700],
    -- 0BH PAYLOAD
    [.scalar 100 6000, .scalar 1000 1500, .scalar 1000 1500, .scalar 1000 1500,
     .scalar 0 700, .scalar 0 700, .scalar 0 700],
    -- 0CH TIMING
    [.scalar 100 1000, .scalar 100 2000] ]

/-- The specifications of a section's entries; a code above 0CH names no section (R180). -/
def sectionSpec? (sec : Nat) : Option (List EntrySpec) := profileSpec[sec]?

/-- The specification of an entry, if the section holds it. -/
def entrySpec? (sec idx : Nat) : Option EntrySpec := (sectionSpec? sec).bind (·[idx]?)

/-- The entry a profile holds at a section and index. -/
def Profile.entry (p : Profile) (sec idx : Nat) : Entry :=
  (p.sections.getD sec []).getD idx (.scalar 0)

/-- The scalar a profile holds at a section and index. -/
def Profile.scalar (p : Profile) (sec idx : Nat) : Nat :=
  match p.entry sec idx with
  | .scalar n => n
  | .point _ _ => 0

/-- The breakpoint a profile holds at a section and index. -/
def Profile.point (p : Profile) (sec idx : Nat) : Nat × Nat :=
  match p.entry sec idx with
  | .scalar _ => (0, 0)
  | .point speed torque => (speed, torque)

/-- The profile with one entry replaced (R180): no other entry changes. -/
def Profile.store (p : Profile) (sec idx : Nat) (e : Entry) : Profile :=
  { p with sections := p.sections.set sec ((p.sections.getD sec []).set idx e) }

/-- The value a write stores in an entry, and whether a clamp changed it (R180). -/
def clampEntry : EntrySpec → (b3 b2 b1 b0 : Byte) → Entry × Bool
  | .scalar lo hi, b3, b2, b1, b0 =>
      let v := word32 b3 b2 b1 b0
      (.scalar (clampNat lo hi v), clampNat lo hi v != v)
  | .count, b3, b2, b1, b0 =>
      let v := word32 b3 b2 b1 b0
      (.scalar (clampNat 2 16 v), clampNat 2 16 v != v)
  | .point, b3, b2, b1, b0 =>
      let speed := word16 b3 b2
      let torque := word16 b1 b0
      (.point (clampNat 0 4000 speed) (clampNat 0 32000 torque),
       clampNat 0 4000 speed != speed || clampNat 0 32000 torque != torque)

/-- An entry on the wire, in the width its range needs (R197). -/
def entryBytes : Option EntrySpec → Entry → List Byte
  | some (.scalar _ hi), .scalar n =>
      if hi ≤ 255 then byte1 n else if hi ≤ 65535 then byte2 n else byte4 n
  | some .count, .scalar n => byte1 n
  | _, .point speed torque => byte2 speed ++ byte2 torque
  | _, .scalar n => byte4 n

/-! ### The named constants (R179) -/

/-- A profile scalar of the state. -/
def scalar (s : State) (sec idx : Nat) : Nat := s.profile.scalar sec idx

/-- Teeth per motor revolution (R2). -/
def teeth (s : State) : Nat := scalar s 0x00 0
/-- Truck speed in 0.1 km/h per 1000 rpm (R2). -/
def kSpeed (s : State) : Nat := scalar s 0x00 1
/-- The noise limit's speed (R2). -/
def rpmMaxValid (s : State) : Nat := scalar s 0x00 2
/-- The edge timer of each wheel channel, in ms (R2). -/
def stationaryTimeout (s : State) : Nat := scalar s 0x00 3
/-- The least speed a pass computes with (R73). -/
def rpmFloor (s : State) : Nat := scalar s 0x00 4

/-- The breakpoints in force of a torque table: 1 to the count (R74, R179). -/
def breakpoints (s : State) (sec : Nat) : List (Nat × Nat) :=
  (List.range (scalar s sec 0)).map fun k => s.profile.point sec (k + 1)

/-- The propel table (R74). -/
def propelTable (s : State) : List (Nat × Nat) := breakpoints s 0x01
/-- The retard table (R74). -/
def retardTable (s : State) : List (Nat × Nat) := breakpoints s 0x02
/-- The propel slew (R82). -/
def propelSlew (s : State) : Nat := scalar s 0x03 0
/-- The retard slew (R82). -/
def retardSlew (s : State) : Nat := scalar s 0x03 1
/-- The taper band (R78). -/
def taperBand (s : State) : Nat := scalar s 0x03 2

/-- Rated torque of the motor class (R151). -/
def tRated (s : State) : Nat := scalar s 0x04 0
/-- Rated current of the motor class (R151). -/
def iRated (s : State) : Nat := scalar s 0x04 1
/-- The load of a motor whose report is stale (R152). -/
def staleLoad (s : State) : Nat := scalar s 0x04 10

/-- The section that holds an element's class: MOTOR, GRID 1 or GRID 2 (R151). -/
def elementSection : Element → Nat
  | .ml => 0x04
  | .mr => 0x04
  | .g1 => 0x05
  | .g2 => 0x06

/-- The time constant τ of an element's class (R151). -/
def tau (s : State) (e : Element) : Nat := scalar s (elementSection e) 2
/-- warm_on of an element's class (R151). -/
def warmOn (s : State) (e : Element) : Nat := scalar s (elementSection e) 3
/-- derate_on of an element's class (R151). -/
def derateOn (s : State) (e : Element) : Nat := scalar s (elementSection e) 4
/-- trip_on of an element's class (R151). -/
def tripOn (s : State) (e : Element) : Nat := scalar s (elementSection e) 5
/-- The hysteresis h of an element's class (R151). -/
def hysteresis (s : State) (e : Element) : Nat := scalar s (elementSection e) 6
/-- The dwell of an element's class, in ms (R151). -/
def dwellTime (s : State) (e : Element) : Nat := scalar s (elementSection e) 7
/-- d_min of an element's class (R151). -/
def dMin (s : State) (e : Element) : Nat := scalar s (elementSection e) 8
/-- θ_init of an element's class (R151). -/
def thetaInit (s : State) (e : Element) : Nat := scalar s (elementSection e) 9

/-- The section of a bank. -/
def bankSection : BankId → Nat
  | .one => 0x05
  | .two => 0x06

/-- Rated power of a bank, in kW (R109). -/
def pRated (s : State) (b : BankId) : Nat := scalar s (bankSection b) 0
/-- Resistance of a bank, in mΩ (R109). -/
def resistance (s : State) (b : BankId) : Nat := scalar s (bankSection b) 1

/-- V_dump (R163). -/
def vDump (s : State) : Nat := scalar s 0x07 0
/-- V_trip (R163). -/
def vTrip (s : State) : Nat := scalar s 0x07 1
/-- The auxiliary load, in kW (R125). -/
def auxKw (s : State) : Nat := scalar s 0x07 2
/-- The chopper period, in µs (R119). -/
def chopperPeriod (s : State) : Nat := scalar s 0x08 0

/-- The proportional gain (R97). -/
def kp (s : State) : Nat := scalar s 0x09 0
/-- The integral gain (R97). -/
def ki (s : State) : Nat := scalar s 0x09 1
/-- The bound of the integral (R97). -/
def iMax (s : State) : Nat := scalar s 0x09 2
/-- The overspeed margin (R102). -/
def margin (s : State) : Nat := scalar s 0x09 3
/-- The brake delay, in ms (R102). -/
def brakeDelay (s : State) : Nat := scalar s 0x09 4
/-- The band below S at which the CAP source lets go (R94). -/
def holdRelease (s : State) : Nat := scalar s 0x09 5

/-- Geometry ratio r_i at |angle| 30 × i (R131). -/
def geometry (s : State) (i : Nat) : Nat := scalar s 0x0A i
/-- slip_on (R141). -/
def slipOn (s : State) : Nat := scalar s 0x0A 16
/-- slip_off (R141). -/
def slipOff (s : State) : Nat := scalar s 0x0A 17
/-- slide_on (R141). -/
def slideOn (s : State) : Nat := scalar s 0x0A 18
/-- slide_off (R141). -/
def slideOff (s : State) : Nat := scalar s 0x0A 19
/-- slip_cut (R142). -/
def slipCut (s : State) : Nat := scalar s 0x0A 20
/-- The restore step (R144). -/
def restoreStep (s : State) : Nat := scalar s 0x0A 21
/-- The LOW_PRECHARGE cap (R136). -/
def lowPrechargeCap (s : State) : Nat := scalar s 0x0A 22
/-- The LOW_PRESSURE cap (R136). -/
def lowPressureCap (s : State) : Nat := scalar s 0x0A 23
/-- The ANGLE_FAULT cap (R136). -/
def angleFaultCap (s : State) : Nat := scalar s 0x0A 24

/-- The rated payload (R161). -/
def ratedPayload (s : State) : Nat := scalar s 0x0B 0
/-- The threshold of OVER1, OVER2 or OVER3: i is 1, 2 or 3 (R161). -/
def overThreshold (s : State) (i : Nat) : Nat := scalar s 0x0B i
/-- The speed cap of OVER1, OVER2 or OVER3: i is 1, 2 or 3 (R161). -/
def overCap (s : State) (i : Nat) : Nat := scalar s 0x0B (i + 3)

/-- The demand lifetime, in ms (R58). -/
def demandLifetime (s : State) : Nat := scalar s 0x0C 0
/-- The handover window, in ms (R44). -/
def handoverWindow (s : State) : Nat := scalar s 0x0C 1

/-! ### The commit check (R182) -/

/-- The checks of the commit, by their codes (R182). -/
inductive Check
  | range | count | ascending | order
deriving DecidableEq, Repr

/-- The check codes of R182. -/
def Check.code : Check → Nat
  | .range => 0
  | .count => 1
  | .ascending => 2
  | .order => 3

/-- Whether the ORDER check of an entry fails; entries without one never fail (R182). -/
def orderFails (p : Profile) (sec idx : Nat) : Bool :=
  let v := p.scalar sec idx
  let before := p.scalar sec (idx - 1)
  if 0x04 ≤ sec && sec ≤ 0x06 then
    if idx = 4 || idx = 5 then decide (v ≤ before)
    else if idx = 6 then decide (p.scalar sec 3 ≤ v)
    else false
  else if sec = 0x07 then
    if idx = 1 then decide (v ≤ before) else false
  else if sec = 0x0A then
    if idx = 0 then v != 1000
    else if idx ≤ 15 then decide (before < v)
    else if idx = 17 || idx = 19 then decide (before ≤ v)
    else false
  else if sec = 0x0B then
    if idx = 2 || idx = 3 then decide (v ≤ before)
    else if idx = 5 || idx = 6 then decide (before < v)
    else false
  else false

/-- The first check that fails at an entry, if one does (R182). -/
def entryFailure (p : Profile) (sec idx : Nat) : EntrySpec → Option Check
  | .scalar lo hi =>
      let v := p.scalar sec idx
      if v < lo || hi < v then some .range
      else if orderFails p sec idx then some .order
      else none
  | .count =>
      let v := p.scalar sec idx
      if v < 2 || 16 < v then some .count else none
  | .point =>
      if idx ≤ p.scalar sec 0 && 2 ≤ idx && (p.point sec idx).1 ≤ (p.point sec (idx - 1)).1
      then some .ascending else none

/-- The first failure of a section, by index upward. -/
def sectionFailure (p : Profile) (sec : Nat) (specs : List EntrySpec) : Option (Nat × Nat × Check) :=
  specs.zipIdx.findSome? fun (spec, idx) => (entryFailure p sec idx spec).map fun c => (sec, idx, c)

/-- The first failure of the whole profile, walked by section code and index (R182). -/
def profileFailure (p : Profile) : Option (Nat × Nat × Check) :=
  profileSpec.zipIdx.findSome? fun (specs, sec) => sectionFailure p sec specs

end Sys2Proof.Machine
end

