-- ==== Sys2Proof/Machine/Flags.lean ====
section
/-! DEFINITION. The flags other parts of the governor compute from state: the bits of the status byte
(R190, R196), the notice line (R195), the stationary flag (R16), and the tests several rules share
(a faulted wheel channel, a ready inverter, a capped retard, whether a hold is engaged). -/

namespace Sys2Proof.Machine

/-- Whether the port's party is the holder, as the Authority Unit gives it (R54): port C while the
holder is CAB, port S while it is SUPERVISOR, never port I. -/
def holderIsYou (s : State) : Port → Bool
  | .i => false
  | .c => s.authority.record.holder == some .cab
  | .s => s.authority.record.holder == some .supervisor

/-- The status byte of a response formed now (R190, R196): bits 1..0 the mode, 2 holder-is-you, 3
notices pending, 4 overflow, 5 REPEAT, 6 CLAMPED, 7 always 1. -/
def statusByte (s : State) (p : Port) (repeated clamped : Bool) : Byte :=
  let r := s.ports.recs.get p
  BitVec.ofNat 8 (s.governor.mode.code + (if holderIsYou s p then 4 else 0) +
    (if r.queue.isEmpty then 0 else 8) + (if r.overflow then 16 else 0) +
    (if repeated then 32 else 0) + (if clamped then 64 else 0) + 128)

/-- The notice line of a port (R195): active while the queue count is at least the threshold, and on
port S only with the strap FITTED. -/
def noticeLine (strap : Strap) (p : Port) (r : PortRecord) : Bool :=
  decide (r.threshold ≤ r.queue.length) && !(p == .s && strap == .notFitted)

/-- The stationary flag: v valid and below 5 (R16). -/
def stationaryFlag (v : Nat) (valid : Bool) : Bool := valid && decide (v < 5)

/-- Whether a wheel channel is in FAULT (R2). -/
def wheelFault (s : State) (w : Wheel) : Bool := (s.capture.wheels.get w).state == .fault

/-- Whether both wheel channels are in FAULT (R75). -/
def bothFault (s : State) : Bool := wheelFault s .left && wheelFault s .right

/-- Whether a wheel's inverter counts as ready: its flag reads READY and the report is FRESH (R68). -/
def inverterReady (s : State) (w : Wheel) : Bool :=
  s.overload.report.ready.get w && s.overload.report.freshness == .fresh

/-- The bindings under which a larger effort would not raise the torque (R83, R98). -/
def capsEffort : Binding → Bool
  | .capability => true
  | .limit => true
  | .powerShare => true
  | .taper => true
  | .zero => false
  | .request => false
  | .slew => false

/-- The last grant taken is a capped retard (R98, R102). -/
def cappedRetard (g : HoldGrant) : Bool :=
  g.mode == .retard && (capsEffort g.bindL || capsEffort g.bindR)

/-- The hold is engaged while at least one of its three sources is present (R91). -/
def holdEngaged (c : HoldContext) : Bool :=
  c.demandSource.isSome || c.capSource.isSome || c.staleSource.isSome

/-- The brake request line (R105): asserted in CONFIG and INHIBIT and for either reason. -/
def brakeAsserted (modeSeen : GovMode) (overspeed noRetard : Bool) : Bool :=
  modeSeen == .config || modeSeen == .inhibit || overspeed || noRetard

/-- The effective supply: the reported supply while the Cab status is FRESH, else LOW_PRECHARGE (R136). -/
def effectiveSupply (c : CabStatus) : Supply :=
  match c.freshness with
  | .fresh => c.supply
  | .stale => .lowPrecharge

end Sys2Proof.Machine
end

