-- ==== Sys2Proof/Machine/Notices.lean ====
section
/-! DEFINITION. Offering a notice to the three port queues (R193). -/

namespace Sys2Proof.Machine

/-- The port of a master source; an internal source has none (R39). -/
def sourcePort : Source → Option Port
  | .inverter => some .i
  | .cab => some .c
  | .supervisor => some .s
  | _ => none

/-- Whether a port queues a notice (R193): its kind is in the mask (bit 0 is kind 01H, R195), the port
is not port S with the strap NOT_FITTED, and a LIMIT_EXPIRED is for its owner's port (R39). -/
def accepts (strap : Strap) (p : Port) (r : PortRecord) (n : Notice) : Bool :=
  r.mask.getLsbD (n.kind - 1) && !(p == .s && strap == .notFitted) &&
    match n with
    | .limitExpired _ e => sourcePort e.source == some p
    | _ => true

/-- Whether two notices are ENVELOPE notices for the same field (R193). -/
def sameField : Notice → Notice → Bool
  | .envelope f _, .envelope g _ => f == g
  | _, _ => false

/-- A notice taken at a queue that accepts it (R193): an ENVELOPE entry for the same field takes the
new contents in its place; a full queue drops the notice and sets overflow; otherwise it joins as the
newest entry. -/
def enqueue (r : PortRecord) (n : Notice) : PortRecord :=
  if r.queue.any (sameField n) then
    { r with queue := r.queue.map fun m => if sameField n m then n else m }
  else if 16 ≤ r.queue.length then { r with overflow := true }
  else { r with queue := r.queue ++ [n] }

/-- A port record with its notice line evaluated again (R195). -/
def evalNoticeLine (strap : Strap) (p : Port) (r : PortRecord) : PortRecord :=
  { r with lineActive := noticeLine strap p r }

/-- A notice offered to one port (R193). -/
def offerAt (strap : Strap) (n : Notice) (p : Port) (r : PortRecord) : PortRecord :=
  if accepts strap p r n then evalNoticeLine strap p (enqueue r n) else r

/-- A notice offered to the three ports (R193). -/
def offer (n : Notice) (s : State) : State :=
  let u := s.ports
  s.withPorts { u with recs :=
    { i := offerAt u.strap n .i u.recs.i
      c := offerAt u.strap n .c u.recs.c
      s := offerAt u.strap n .s u.recs.s } }

end Sys2Proof.Machine
end

