-- ==== Sys2Proof/Machine/Operands.lean ====
section
/-! DEFINITION. What a transaction carries and how its request is served: the bytes clocked out, the
checks of the strap and the permission table (R189, R191), the owner's answer, and the response that
becomes the port's last response (R188, R190, R196). -/

namespace Sys2Proof.Machine

/-- An owner's answer: the answer code, the result bytes after it, and whether a value was clamped. -/
structure Reply where
  answer  : Answer
  results : List Byte := []
  clamped : Bool := false
deriving DecidableEq, Repr

/-- A refusal with no result but its code. -/
def refuse (a : Answer) : Reply := { answer := a }

/-- The port permission table (R191). -/
def permitted : Request → Port → Bool
  | .nop, _ => true
  | .readRecord, _ => true
  | .readTable, _ => true
  | .takeNotices, _ => true
  | .setNoticeMask, _ => true
  | .setNoticeThreshold, _ => true
  | .postLimit, _ => true
  | .withdrawLimit, _ => true
  | .claim, p => p != .i
  | .release, p => p != .i
  | .yieldAuthority, p => p == .s
  | .withdrawBid, p => p == .s
  | .submitDemand, p => p != .i
  | .reportDrive, p => p == .i
  | .reportCab, p => p == .c
  | .profileWrite, p => p == .i
  | .commitProfile, p => p == .i
  | .clearTrips, p => p != .s

/-- A response frame as it is clocked out (R196). -/
def Response.wire (r : Response) : List Byte :=
  r.status :: r.echo :: BitVec.ofNat 8 r.result.length :: r.result

/-- The bytes a port clocks out in a transaction of n bytes: its last response, then 00H (R188). -/
def clocked (r : Response) (n : Nat) : List Byte := (Response.wire r ++ List.replicate n 0x00).take n

/-- A state with a port's record changed. -/
def updPort (p : Port) (f : PortRecord → PortRecord) (s : State) : State :=
  s.withPorts { s.ports with recs := s.ports.recs.set p (f (s.ports.recs.get p)) }

/-- The last response clocked out while the request's n bytes are clocked in (R188). -/
def clockOut (p : Port) (n : Nat) (s : State) : State :=
  updPort p (fun r => { r with sdo := clocked r.response n }) s

/-- An answer made the port's last response, with the status byte formed now (R188, R190). -/
def respond (p : Port) (echo : Byte) (reply : Reply) (s : State) : State :=
  updPort p (fun r => { r with
    response :=
      { status := statusByte s p false reply.clamped
        echo := echo
        result := byte1 reply.answer.code ++ reply.results } }) s

/-- A transaction of n bytes taken at the rise of chip-select. One whose chip-select fell before the
last reset ended is discarded (R187). -/
def transaction (p : Port) (early : Bool) (n : Nat) (take : State → State) (s : State) : Result :=
  whenLive (fun s => if early then s else take (clockOut p n s)) s

/-- The number of bytes a complete frame clocks: code, length, arguments and the bytes beyond (R188). -/
def frameBytes (f : Frame) : Nat := 2 + f.args.length + f.extra.length

/-- Port S with the strap NOT_FITTED (R189). -/
def unfitted (s : State) (p : Port) : Bool := p == .s && s.ports.strap == .notFitted

/-- The checks of R189 and, when they pass, the owner's answer. -/
def answerRequest (r : Request) (p : Port) (owner : State → State × Reply) (s : State) : State :=
  if unfitted s p then respond p r.code (refuse .notFitted) s
  else if !permitted r p then respond p r.code (refuse .notPermitted) s
  else respond p r.code (owner s).2 (owner s).1

/-- A complete frame of a request: clocked, checked, handed to its owner and answered (R188, R189). -/
def serve (r : Request) (p : Port) (f : Frame) (owner : State → State × Reply) (s : State) : Result :=
  transaction p f.early (frameBytes f) (answerRequest r p owner) s

end Sys2Proof.Machine
end

