-- ==== Sys2Proof/Machine/Limits.lean ====
section
/-! DEFINITION. The Envelope Unit: the limit table and its keys (R20 to R23), POST LIMIT (R24 to R28),
WITHDRAW LIMIT (R29), hold-time expiry (R31), the posts and withdrawals of the governor's own units
(R33), and the derivation of the envelope (R35 to R38). -/

namespace Sys2Proof.Machine

/-- The key of a contribution (R20). -/
abbrev Key := Source × Kind × Scope

/-- The key of a contribution. -/
def keyOf (c : Contribution) : Key := (c.source, c.kind, c.scope)

/-- The fixed keys of the internal slots 0 to 11 (R21). -/
def internalKeys : List Key :=
  [(.trip, .propelTorque, .axle), (.grid, .retardPower, .axle), (.steer, .speed, .axle),
   (.payload, .speed, .axle), (.slipL, .propelTorque, .left), (.slipR, .propelTorque, .right),
   (.slipL, .retardTorque, .left), (.slipR, .retardTorque, .right),
   (.thermalML, .propelTorque, .left), (.thermalML, .retardTorque, .left),
   (.thermalMR, .propelTorque, .right), (.thermalMR, .retardTorque, .right)]

/-- The contribution in a slot. -/
def slotAt (u : LimitUnit) (i : Nat) : Option Contribution := (u.slots[i]?).join

/-- The source of a master, by its port (R21). -/
def portSource : Port → Source
  | .i => .inverter
  | .c => .cab
  | .s => .supervisor

/-! ### The envelope -/

/-- The envelope field's kind and the scopes that apply to it (R35). -/
def applies (f : EnvField) (c : Contribution) : Bool :=
  match f with
  | .propelL => c.kind == .propelTorque && c.scope != .right
  | .propelR => c.kind == .propelTorque && c.scope != .left
  | .retardTqL => c.kind == .retardTorque && c.scope != .right
  | .retardTqR => c.kind == .retardTorque && c.scope != .left
  | .retardPower => c.kind == .retardPower && c.scope == .axle
  | .speed => c.kind == .speed && c.scope == .axle

/-- The smaller of the bound found so far and a later slot's: an equal value leaves the lower-numbered
slot binding (R36, R37). -/
def tighter (best : Option Bound) (value : Nat) (source : Source) (slot : Nat) : Option Bound :=
  match best with
  | none => some ⟨value, source, slot⟩
  | some b => if value < b.value then some ⟨value, source, slot⟩ else some b

/-- The bound a field takes from a list of slots numbered from `i` on. -/
def bindFrom (f : EnvField) : Option Bound → Nat → List (Option Contribution) → Option Bound
  | best, _, [] => best
  | best, i, none :: rest => bindFrom f best (i + 1) rest
  | best, i, some c :: rest =>
      bindFrom f (if applies f c then tighter best c.value c.source i else best) (i + 1) rest

/-- A field derived from the table (R36, R37); `none` is OPEN. -/
def deriveField (slots : List (Option Contribution)) (f : EnvField) : Option Bound :=
  bindFrom f none 0 slots

/-- The whole envelope derived from the table (R38). -/
def deriveEnvelope (slots : List (Option Contribution)) : Envelope :=
  { propelL := deriveField slots .propelL
    propelR := deriveField slots .propelR
    retardTqL := deriveField slots .retardTqL
    retardTqR := deriveField slots .retardTqR
    retardPower := deriveField slots .retardPower
    speed := deriveField slots .speed }

/-- A field of an envelope. -/
def Envelope.field (e : Envelope) : EnvField → Option Bound
  | .propelL => e.propelL
  | .propelR => e.propelR
  | .retardTqL => e.retardTqL
  | .retardTqR => e.retardTqR
  | .retardPower => e.retardPower
  | .speed => e.speed

/-- The envelope fields, in the order of their codes. -/
def allFields : List EnvField := [.propelL, .propelR, .retardTqL, .retardTqR, .retardPower, .speed]

/-- What an ENVELOPE notice reports of a field: its value and binding source, not its slot (R38). -/
def reported (b : Option Bound) : Option (Nat × Source) := b.map fun b => (b.value, b.source)

/-- The ENVELOPE notice of one field, raised if its value, its being OPEN or its binding source
changed (R38). -/
def noteField (before after : Envelope) (f : EnvField) (s : State) : State :=
  if reported (before.field f) = reported (after.field f) then s
  else offer (.envelope f (reported (after.field f))) s

/-- The table with new contents: the envelope derived again, and a notice for each changed field (R38). The
manual gives no order among the notices of several fields; the model raises them in the order of the field
codes (DESIGN CHOICE, assumption log 37). -/
def withTable (u : LimitUnit) (s : State) : State :=
  let before := s.limits.envelope
  let after := deriveEnvelope u.slots
  allFields.foldl (fun s f => noteField before after f s) (s.withLimits { u with envelope := after })

/-! ### Internal contributions (R33) -/

/-- An internal unit posts a value into its fixed slot (R33). -/
def internalPost (slot value : Nat) (s : State) : State :=
  let u := s.limits
  match slotAt u slot with
  | some c => withTable { u with slots := u.slots.set slot (some { c with value := value }) } s
  | none =>
      let k := internalKeys.getD slot (.trip, .propelTorque, .axle)
      withTable
        { u with
          slots := u.slots.set slot (some
            { source := k.1, kind := k.2.1, scope := k.2.2, value := value, reason := 0,
              order := u.nextOrder, hold := none })
          nextOrder := u.nextOrder + 1 } s

/-- An internal unit withdraws its contribution; withdrawing an absent one does nothing (R33). -/
def internalWithdraw (slot : Nat) (s : State) : State :=
  match slotAt s.limits slot with
  | some _ => withTable { s.limits with slots := s.limits.slots.set slot none } s
  | none => s

/-- Posts a value, or withdraws the contribution when there is none. -/
def internalSet (slot : Nat) (value : Option Nat) (s : State) : State :=
  match value with
  | some v => internalPost slot v s
  | none => internalWithdraw slot s

/-! ### Requests of the masters -/

/-- The slot that holds a contribution with the key, with that contribution, if one does (R24). -/
def findKey (u : LimitUnit) (k : Key) : Option (Nat × Contribution) :=
  u.slots.zipIdx.findSome? fun (c, i) => c.bind fun c => if keyOf c = k then some (i, c) else none

/-- The lowest-numbered absent slot of the master pool (R22). -/
def freePoolSlot (u : LimitUnit) : Option Nat :=
  ((List.range 20).map (· + 12)).find? fun i => (slotAt u i).isNone

/-- The largest value of a kind (R25). -/
def kindMax : Kind → Nat
  | .propelTorque => 32000
  | .retardTorque => 32000
  | .retardPower => 8000
  | .speed => 700

/-- A kind of RETARD_POWER or SPEED belongs to the whole axle (R24). -/
def scopeFits (k : Kind) (sc : Scope) : Bool :=
  match k with
  | .propelTorque => true
  | .retardTorque => true
  | .retardPower => sc == .axle
  | .speed => sc == .axle

/-- The counts a POST LIMIT or WITHDRAW LIMIT response ends with: the master's and the pool's (R28). -/
def countBytes (u : LimitUnit) (p : Port) : List Byte :=
  byte1 (u.counts.get p) ++ byte1 u.poolCount

/-- A refused POST LIMIT: the code, with the counts as they stand (R28). -/
def refusePost (a : Answer) (p : Port) (s : State) : State × Reply :=
  (s, { answer := a, results := countBytes s.limits p })

/-- The response to an accepted POST LIMIT (R28); the outcome is 00H CREATED or 01H REPLACED (R190). -/
def postReply (outcome slot value hold : Nat) (order : Serial) (clamped : Bool) (p : Port)
    (s : State) : State × Reply :=
  (s, { answer := .ok
        results := byte1 outcome ++ byte1 slot ++ byte2 order.toNat ++ byte2 value ++ byte2 hold ++
          countBytes s.limits p
        clamped := clamped })

/-- The table with a master contribution replaced in place (R26). -/
def replaceEntry (slot : Nat) (c : Contribution) (value hold reason : Nat) (u : LimitUnit) : LimitUnit :=
  { u with slots := u.slots.set slot (some
      { c with value := value, reason := reason, hold := some ⟨hold, hold * 1000⟩ }) }

/-- The table with a master contribution created (R27). -/
def createEntry (slot : Nat) (k : Key) (value hold reason : Nat) (p : Port) (u : LimitUnit) :
    LimitUnit :=
  { u with
    slots := u.slots.set slot (some
      { source := k.1, kind := k.2.1, scope := k.2.2, value := value, reason := reason,
        order := u.nextOrder, hold := some ⟨hold, hold * 1000⟩ })
    counts := u.counts.set p (u.counts.get p + 1)
    poolCount := u.poolCount + 1
    nextOrder := u.nextOrder + 1 }

/-- The table with a master contribution removed from its slot (R22, R29, R31). -/
def removeEntry (slot : Nat) (p : Port) (u : LimitUnit) : LimitUnit :=
  { u with
    slots := u.slots.set slot none
    counts := u.counts.set p (u.counts.get p - 1)
    poolCount := u.poolCount - 1 }

/-- A POST LIMIT whose codes have passed: replacement, or creation after the quota and the pool checks
(R24 to R27). -/
def postChecked (p : Port) (k : Kind) (sc : Scope) (rawValue rawHold reason : Nat) (s : State) :
    State × Reply :=
  let key : Key := (portSource p, k, sc)
  let value := clampNat 0 (kindMax k) rawValue
  let hold := clampNat 100 30000 rawHold
  let clamped := value != rawValue || hold != rawHold
  match findKey s.limits key with
  | some (slot, c) =>
      postReply 1 slot value hold c.order clamped p
        (withTable (replaceEntry slot c value hold reason s.limits) s)
  | none =>
      if 8 ≤ s.limits.counts.get p then refusePost .quota p s
      else if 20 ≤ s.limits.poolCount then refusePost .tableFull p s
      else
        match freePoolSlot s.limits with
        | some slot =>
            postReply 0 slot value hold s.limits.nextOrder clamped p
              (withTable (createEntry slot key value hold reason p s.limits) s)
        | none => refusePost .tableFull p s

/-- POST LIMIT at the Envelope Unit (R24). -/
def postOwner (p : Port) (args : List Byte) (s : State) : State × Reply :=
  match args with
  | [kb, sb, v1, v0, h1, h0, reason] =>
      match kindOf? kb.toNat, scopeOf? sb.toNat with
      | some k, some sc =>
          if scopeFits k sc then postChecked p k sc (word16 v1 v0) (word16 h1 h0) reason.toNat s
          else refusePost .badScope p s
      | _, _ => refusePost .badValue p s
  | _ => refusePost .badValue p s

/-- WITHDRAW LIMIT of a contribution that is present (R29). -/
def withdrawEntry (p : Port) (slot : Nat) (c : Contribution) (s : State) : State × Reply :=
  let s' := withTable (removeEntry slot p s.limits) s
  (s', { answer := .ok
         results := byte1 slot ++ byte2 c.order.toNat ++ byte2 c.value ++
           byte2 (leftMs (c.hold.map (·.left))) ++ countBytes s'.limits p })

/-- WITHDRAW LIMIT at the Envelope Unit (R29). -/
def withdrawOwner (p : Port) (args : List Byte) (s : State) : State × Reply :=
  match args with
  | [kb, sb] =>
      match kindOf? kb.toNat, scopeOf? sb.toNat with
      | some k, some sc =>
          if scopeFits k sc then
            match findKey s.limits (portSource p, k, sc) with
            | some (slot, c) => withdrawEntry p slot c s
            | none => (s, refuse .noSuch)
          else (s, refuse .badScope)
      | _, _ => (s, refuse .badValue)
  | _ => (s, refuse .badValue)

/-- The expiry of the hold of the master contribution in a slot (R31): the entry is removed, its owner
is told, and the envelope is derived again. A slot with no master contribution has no hold timer. -/
def limitExpiry (slot : Nat) (s : State) : State :=
  match slotAt s.limits slot with
  | some c =>
      match c.hold, sourcePort c.source with
      | some _, some p =>
          withTable (removeEntry slot p s.limits) (offer (.limitExpired slot c) s)
      | _, _ => s
  | none => s

/-! ### READ TABLE of the limit table (R41) -/

/-- A field of the slots read, once for each slot, by ascending slot (R197). -/
def slotField (slots : List (Option Contribution)) (f : Option Contribution → List Byte) : List Byte :=
  (slots.map f).flatten

/-- The slots of the limit table as READ TABLE returns them, field by field (R41, R197): the fields of an
absent slot, and the hold fields of an internal contribution, are all ones. -/
def slotsBytes (slots : List (Option Contribution)) : List Byte :=
  slotField slots (fun c => byte1? (c.map (·.source.code))) ++
    slotField slots (fun c => byte1? (c.map (·.kind.code))) ++
    slotField slots (fun c => byte1? (c.map (·.scope.code))) ++
    slotField slots (fun c => byte2? (c.map (·.value))) ++
    slotField slots (fun c => byte1? (c.map (·.reason))) ++
    slotField slots (fun c => byte2? (c.map (·.order.toNat))) ++
    slotField slots (fun c => byte2? ((c.bind (·.hold)).map (·.time))) ++
    slotField slots (fun c => byte2? ((c.bind (·.hold)).map fun h => h.left / 1000))

/-- The number of entries a READ TABLE returns: 1..8, ending at the last entry (R41, R185). -/
def tableCount (start count size : Nat) : Nat := min (clampNat 1 8 count) (size - start)

/-- READ TABLE of the limit table at the Envelope Unit (R41). -/
def readLimitTable (start count : Nat) (s : State) : Reply :=
  if 31 < start then refuse .badValue
  else
    let n := tableCount start count 32
    { answer := .ok
      results := slotsBytes ((List.range n).map fun k => slotAt s.limits (start + k)) ++
        byte1 s.limits.counts.i ++ byte1 s.limits.counts.c ++ byte1 s.limits.counts.s ++
        byte1 s.limits.poolCount
      clamped := n != count }

end Sys2Proof.Machine
end

