-- ==== Sys2Proof/Machine/Demand.lean ====
section
/-! DEFINITION. The effective demand: formed from the authority record, the demand records and the
park brake whenever another block asks for it (R61, R62, R63). It is not stored. -/

namespace Sys2Proof.Machine

/-- Origin of an effective demand, in the order of R61. -/
inductive Origin
  | none | cab | supervisor | blend
deriving DecidableEq, Repr

/-- Origins on the wire, in the order of R61. -/
def Origin.code : Origin → Nat
  | .none => 0
  | .cab => 1
  | .supervisor => 2
  | .blend => 3

/-- The effective demand (R61). -/
structure EffDemand where
  direction : Direction
  propel    : Nat
  retard    : Nat
  setpoint  : Option Nat
  origin    : Origin
  stale     : Bool
  handover  : Bool
  parkBrake : Bool
deriving DecidableEq, Repr

/-- The neutral demand (R61 in VACANT; R69). -/
def neutralDemand : EffDemand :=
  { direction := .neutral, propel := 0, retard := 0, setpoint := none, origin := .none,
    stale := false, handover := false, parkBrake := false }

/-- The origin that names a party. -/
def partyOrigin : Party → Origin
  | .cab => .cab
  | .supervisor => .supervisor

/-- A holder's demand as it acts: one that is STALE keeps its retard and direction, with propel 0 and
no setpoint (R61; step 1 of R62). -/
def reduced (d : Demand) : Demand :=
  match d.freshness with
  | .fresh => d
  | .stale => { d with propel := 0, setpoint := none }

/-- The smaller of two optional setpoints; the one present when only one is (R62). -/
def smallerSetpoint : Option Nat → Option Nat → Option Nat
  | some a, some b => some (min a b)
  | some a, none => some a
  | none, b => b

/-- The effective demand of a single holder (R61). -/
def heldDemand (x : Party) (d : Demand) : EffDemand :=
  let r := reduced d
  { direction := r.direction, propel := r.propel, retard := r.retard, setpoint := r.setpoint,
    origin := partyOrigin x, stale := d.freshness == .stale, handover := false, parkBrake := false }

/-- The blend of a handover (R62). An ask with an axle direction takes that direction where the two
differ; an ask without one takes the Supervisor's (R64). Either way propel is then 0. -/
def blendDemand (cab sup : Demand) (axle : Option Direction) : EffDemand :=
  let c := reduced cab
  let v := reduced sup
  let agree := c.direction == v.direction
  { direction := if agree then c.direction else axle.getD v.direction
    propel := if agree then min c.propel v.propel else 0
    retard := max c.retard v.retard
    setpoint := smallerSetpoint c.setpoint v.setpoint
    origin := .blend
    stale := cab.freshness == .stale || sup.freshness == .stale
    handover := true
    parkBrake := false }

/-- The demand formed from authority alone, before the park brake (R61, R62). -/
def authorityDemand (a : AuthorityUnit) (axle : Option Direction) : EffDemand :=
  match a.record.state, a.record.holder with
  | .vacant, _ => neutralDemand
  | .handover, _ => blendDemand a.demands.cab a.demands.supervisor axle
  | .held, some x => heldDemand x (a.demands.get x)
  | .held, none => neutralDemand

/-- The park brake applied to a demand: propel 0 and the park-brake flag set (R63). -/
def withParkBrake (b : ParkBrake) (d : EffDemand) : EffDemand :=
  match b with
  | .released => d
  | .applied => { d with propel := 0, parkBrake := true }

/-- The effective demand as it stands, for an ask with or without an axle direction (R61 to R63). -/
def effectiveDemand (axle : Option Direction) (s : State) : EffDemand :=
  withParkBrake s.steering.cab.parkBrake (authorityDemand s.authority axle)

end Sys2Proof.Machine
end

