-- ==== Sys2Proof/Machine/Hold.lean ====
section
/-! DEFINITION. The Grade Hold Unit: the hold context and its sources (R91 to R98), the brake record
and its reasons (R101 to R104), the brake request line (R105), and what the unit does at each event
handed to it: authority events, changes of mode, GRID posts and publications. -/

namespace Sys2Proof.Machine

/-- A state with the hold context changed. -/
def updCtx (f : HoldContext → HoldContext) (s : State) : State :=
  s.withHold { s.hold with ctx := f s.hold.ctx }

/-- A state with the brake record changed. -/
def updBrake (f : BrakeRecord → BrakeRecord) (s : State) : State :=
  s.withHold { s.hold with brake := f s.hold.brake }

/-- The brake request line evaluated again: it follows the mode seen and the reasons, and each change
of it raises a BRAKE notice (R105). -/
def evalBrakeLine (s : State) : State :=
  let b := s.hold.brake
  let m := s.hold.ctx.modeSeen
  let on := brakeAsserted m b.overspeed b.noRetard
  if on = b.asserted then s
  else offer (.brake on b.overspeed b.noRetard m) (updBrake (fun b => { b with asserted := on }) s)

/-- A hold context with its effective setpoint formed again; with no source present the integral, the
effort and the last error are 0 (R96). -/
def settleCtx (c : HoldContext) : HoldContext :=
  let c := { c with setpoint := smallest (present [c.demandSource, c.capSource, c.staleSource]) }
  if holdEngaged c then c else { c with integral := 0, bHold := 0, lastError := 0 }

/-- After an event that may have changed a source: the setpoint is formed again (R96), and OVERSPEED
leaves the reasons when the hold is disengaged (R103). An OVERSPEED that has joined by its timer while the
hold was disengaged already leaves at the next such event; R103 does not say when it leaves (DESIGN CHOICE,
assumption log 31). -/
def settleHold (s : State) : State :=
  let s := updCtx settleCtx s
  if holdEngaged s.hold.ctx then s else updBrake (fun b => { b with overspeed := false }) s

/-! ### The conditions of the brake record -/

/-- The OVERSPEED condition (R102). -/
def overspeedCondition (s : State) : Bool :=
  match s.hold.ctx.setpoint with
  | some sp => decide (sp + margin s < s.capture.v) && cappedRetard s.hold.ctx.lastGrant
  | none => false

/-- The overspeed timer after an evaluation of the condition (R102). -/
def evalOverspeed (s : State) : State :=
  let c := overspeedCondition s
  updBrake (fun b =>
    match b.overspeedTimer with
    | some _ => if c then b else { b with overspeedTimer := none }
    | none => if c && !b.overspeed then { b with overspeedTimer := startMs (brakeDelay s) } else b) s

/-- The NO_RETARD condition (R104). -/
def noRetardCondition (s : State) : Bool :=
  s.hold.ctx.modeSeen == .active && s.hold.ctx.lastGrant.mode == .retard &&
    s.hold.brake.gridSeen == 0

/-- The no-retard timer after an evaluation of the condition: 200 ms (R104). -/
def evalNoRetard (s : State) : State :=
  let c := noRetardCondition s
  updBrake (fun b =>
    match b.noRetardTimer with
    | some _ => if c then b else { b with noRetardTimer := none }
    | none => if c && !b.noRetard then { b with noRetardTimer := startMs 200 } else b) s

/-! ### Events handed to the unit -/

/-- The freshness of the holder's demand. -/
def holderFreshness (a : AuthorityUnit) (x : Party) : Freshness := (a.demands.get x).freshness

/-- The STALE source after an authority event (R95). -/
def staleCtx (holder : Option Party) (freshness : Freshness) (stationary : Bool) (v : Nat)
    (c : HoldContext) : HoldContext :=
  match holder, freshness, stationary with
  | some x, .stale, false => { c with staleSource := some v, staleOwner := some x }
  | _, _, _ => { c with staleSource := none, staleOwner := none }

/-- An authority event: the holder, or none, with that holder's freshness (R60, R95). -/
def holdAuthorityEvent (s : State) : State :=
  let h := s.authority.record.holder
  let freshness := match h with
    | some x => holderFreshness s.authority x
    | none => .fresh
  evalBrakeLine (settleHold (updCtx (staleCtx h freshness s.capture.stationary s.capture.v) s))

/-- A change of governor mode (R99). Leaving ACTIVE releases DEMAND and CAP, zeroes the effort and
stops both timers of the brake record. -/
def holdModeEvent (new : GovMode) (s : State) : State :=
  let leaving := s.hold.ctx.modeSeen == .active && new != .active
  let s := updCtx (fun c => { c with modeSeen := new }) s
  let s :=
    if leaving then
      settleHold (updBrake (fun b => { b with overspeedTimer := none, noRetardTimer := none })
        (updCtx (fun c => { c with demandSource := none, capSource := none, integral := 0, bHold := 0,
                                   lastError := 0 }) s))
    else s
  evalBrakeLine (evalNoRetard s)

/-- A GRID event: the value posted is seen, a value above 0 ends NO_RETARD, and the no-retard timer is
kept (R101, R104). -/
def holdGridEvent (value : Nat) (s : State) : State :=
  let s := updBrake (fun b => { b with gridSeen := value, noRetard := b.noRetard && value == 0 }) s
  evalBrakeLine (evalNoRetard s)

/-- A publication: the record becomes the last grant taken, and both conditions are evaluated (R98,
R102, R104). -/
def holdPublication (g : Grant) (s : State) : State :=
  evalNoRetard (evalOverspeed (updCtx (fun c =>
    { c with lastGrant := ⟨g.mode, g.wheels.left.binding, g.wheels.right.binding, g.pass⟩ }) s))

/-! ### The hold update -/

/-- The CAP source at a hold update (R94): S is the SPEED field, `release` the profile's hold_release. -/
def capAfter (field : Option Nat) (before : Option Nat) (v release : Nat) : Option Nat :=
  match field, before with
  | none, _ => none
  | some lim, none => if lim < v then some lim else none
  | some lim, some _ => if v + release ≤ lim then none else some lim

/-- The DEMAND and CAP sources at a hold update (R93, R94). -/
def updateSources (s : State) : State :=
  updCtx (fun c => { c with
    demandSource := (effectiveDemand none s).setpoint
    capSource := capAfter (s.limits.envelope.speed.map (·.value)) c.capSource s.capture.v
      (holdRelease s) }) s

/-- The integral is held back when raising it could not raise the torque (R98). -/
def holdsBack (c : HoldContext) (e : Int) : Bool := cappedRetard c.lastGrant && decide (0 < e)

/-- The effort of a hold update with a source present (R97): error, integral, effort and record. -/
def updateEffort (s : State) : State :=
  match s.hold.ctx.setpoint with
  | none => s
  | some sp =>
      let e : Int := (s.capture.v : Int) - (sp : Int)
      updCtx (fun c =>
        let held := holdsBack c e
        let i := if held then c.integral else clampInt 0 (iMax s) ((c.integral : Int) + (ki s : Int) * e)
        { c with
          integral := i
          bHold := clampInt 0 1000 ((kp s : Int) * e + ((i / 1000 : Nat) : Int))
          lastError := e
          windupHeld := held }) s

/-- The clear check of OVERSPEED at a hold update: v at or below the effective setpoint (R103). -/
def clearOverspeed (s : State) : State :=
  match s.hold.ctx.setpoint with
  | some sp => if s.capture.v ≤ sp then updBrake (fun b => { b with overspeed := false }) s else s
  | none => s

/-- One hold update (R92): in ACTIVE the sources, the effort, the clear check and the OVERSPEED
condition; otherwise the clear check alone. The timer restarts with 20 ms. -/
def holdUpdate (s : State) : State :=
  let s := updCtx (fun c => { c with timer := startMs 20 }) s
  if s.hold.ctx.modeSeen = .active then
    evalBrakeLine (evalOverspeed (clearOverspeed (updateEffort (settleHold (updateSources s)))))
  else evalBrakeLine (clearOverspeed s)

/-- The overspeed timer runs out: OVERSPEED joins the reasons (R102). -/
def overspeedExpiry (s : State) : State :=
  evalBrakeLine (updBrake (fun b => { b with overspeed := true, overspeedTimer := none }) s)

/-- The no-retard timer runs out: NO_RETARD joins the reasons (R104). -/
def noRetardExpiry (s : State) : State :=
  evalBrakeLine (updBrake (fun b => { b with noRetard := true, noRetardTimer := none }) s)

end Sys2Proof.Machine
end

