-- ==== Sys2Proof/Machine/Steering.lean ====
section
/-! DEFINITION. The Steering Monitor: geometry and shares (R131, R132), the STEER contribution (R136),
slip and slide detection (R137 to R145), the steering run (R130), and the publication event (R138). -/

namespace Sys2Proof.Machine

/-- A state with the Steering Monitor changed. -/
def updSteering (f : SteeringUnit → SteeringUnit) (s : State) : State := s.withSteering (f s.steering)

/-! ### Geometry and shares -/

/-- The geometry ratio at an angle's magnitude (R131). -/
def ratioAt (s : State) (a : Nat) : Nat :=
  let i := a / 30
  if 450 ≤ a then geometry s 15
  else if a % 30 = 0 then geometry s i
  else ((geometry s i : Int) +
    ((geometry s (i + 1) : Int) - (geometry s i : Int)) * ((a : Int) - 30 * (i : Int)) / 30).toNat

/-- The inner wheel of a turn: a positive angle is a right turn (R132). -/
def innerOf (st : AngleState) (angle : Int) : Inner :=
  match st with
  | .fault => .none
  | .ok => if 0 < angle then .right else if angle < 0 then .left else .none

/-- The inner wheel's share (R132). -/
def innerShare (r : Nat) : Nat := 1000 * r / (1000 + r)

/-- The two shares for an inner wheel and a ratio (R132). -/
def sharesOf (inner : Inner) (r : Nat) : PerWheel Nat :=
  match inner with
  | .none => ⟨500, 500⟩
  | .left => ⟨innerShare r, 1000 - innerShare r⟩
  | .right => ⟨1000 - innerShare r, innerShare r⟩

/-- Step 1 of a steering run: the angle group read, the ratio, the inner wheel and the shares (R130, R132). -/
def readAngle (s : State) : State :=
  let a := s.capture.angle
  let inner := innerOf a.state a.angle
  let r := if inner = .none then 1000 else ratioAt s a.angle.natAbs
  updSteering (fun u => { u with
    angleUsed := a.angle
    angleStateUsed := a.state
    ratio := r
    inner := inner
    shares := sharesOf inner r }) s

/-! ### The STEER contribution -/

/-- The caps that apply to STEER (R136). -/
def steerCaps (s : State) : List Nat :=
  (match effectiveSupply s.steering.cab with
    | .normal => []
    | .lowPrecharge => [lowPrechargeCap s]
    | .lowPressure => [lowPressureCap s]) ++
  (match s.steering.angleStateUsed with
    | .fault => [angleFaultCap s]
    | .ok => [])

/-- The STEER contribution evaluated: posted into slot 2 with the smallest cap that applies, or
withdrawn; before commit nothing is evaluated (R136). -/
def evalSteer (s : State) : State :=
  if s.steering.committed then
    let v := smallest (steerCaps s)
    internalSet 2 v (updSteering (fun u => { u with steerValue := v }) s)
  else s

/-! ### Slip records -/

/-- The slot of a wheel's SLIP contribution (R137). -/
def slipSlot : Wheel → DriveMode → Nat
  | .left, .propel => 4
  | .right, .propel => 5
  | .left, .retard => 6
  | .right, .retard => 7

/-- The grant modes in which a slip can be detected. -/
def driveMode? : GrantMode → Option DriveMode
  | .neutral => none
  | .propel => some .propel
  | .retard => some .retard

/-- A state with a wheel's slip record changed. -/
def updSlip (w : Wheel) (f : SlipRecord → SlipRecord) (s : State) : State :=
  updSteering (fun u => { u with slips := u.slips.set w (f (u.slips.get w)) }) s

/-- A SLIP notice of a wheel's record as it stands (R145). -/
def slipNotice (w : Wheel) (cause : SlipCause) (s : State) : State :=
  let r := s.steering.slips.get w
  offer (.slip w r.state r.modeAt r.cap r.deviation cause) s

/-- A cap set or changed: kept in the record and posted into the wheel's slot (R137). -/
def postCap (w : Wheel) (m : DriveMode) (cap : Nat) (s : State) : State :=
  internalPost (slipSlot w m) cap (updSlip w (fun r => { r with cap := some cap }) s)

/-- A slip ended: both SLIP contributions of the wheel withdrawn, the state NORMAL, the mode at
detection and the cap absent (R138, R144). Withdrawing the absent one does nothing (R33). -/
def endSlip (w : Wheel) (cause : SlipCause) (s : State) : State :=
  slipNotice w cause
    (updSlip w (fun r => { r with state := .normal, modeAt := none, cap := none })
      (internalWithdraw (slipSlot w .retard) (internalWithdraw (slipSlot w .propel) s)))

/-- A state of the slip record entered, with its notice. -/
def moveSlip (w : Wheel) (st : SlipState) (cause : SlipCause) (s : State) : State :=
  slipNotice w cause (updSlip w (fun r => { r with state := st }) s)

/-- What a cut leaves of a torque or a cap (R142, R143). -/
def cutOf (s : State) (x : Nat) : Nat := x * (1000 - slipCut s) / 1000

/-- The restore step (R144): `cause` is RESTORED in a run and SUSPENDED in a suspended one (R145). -/
def restoreSlip (w : Wheel) (m : DriveMode) (cap : Nat) (cause : SlipCause) (s : State) : State :=
  let next := cap + restoreStep s
  if s.steering.lastGrant.capability.get w ≤ next then endSlip w cause s else postCap w m next s

/-- Detection is suspended (R139). -/
def slipSuspended (s : State) : Bool :=
  decide (s.capture.v < 20) || s.steering.angleStateUsed == .fault ||
    s.steering.lastGrant.mode == .neutral || wheelFault s .left || wheelFault s .right

/-- A suspended run at one wheel (R139). -/
def suspendedRun (w : Wheel) (s : State) : State :=
  let r := s.steering.slips.get w
  match r.state, r.modeAt, r.cap with
  | .suspect, _, _ =>
      slipNotice w .suspended (updSlip w (fun r => { r with state := .normal, modeAt := none }) s)
  | .slipping, _, _ => moveSlip w .recovering .suspended s
  | .recovering, some m, some cap => restoreSlip w m cap .suspended s
  | _, _, _ => s

/-- The wheel on the inside of the turn, if there is a turn. -/
def innerWheel? : Inner → Option Wheel
  | .none => none
  | .left => some .left
  | .right => some .right

/-- The expected speed of a wheel (R140). -/
def expectedSpeed (s : State) (w : Wheel) : Nat :=
  let other := (s.capture.wheels.get (otherWheel w)).rpm
  match innerWheel? s.steering.inner with
  | none => other
  | some i => if i = w then other * s.steering.ratio / 1000 else other * 1000 / s.steering.ratio

/-- The deviation of a wheel from its expected speed, in per-mil, rounded down (R140). -/
def deviationOf (rpm expected : Nat) : Int :=
  ((rpm : Int) - (expected : Int)) * 1000 / ((max expected 1 : Nat) : Int)

/-- How a wheel's deviation is judged (R141). -/
inductive Finding
  | trigger | band | belowOff
deriving DecidableEq, Repr

/-- The finding for a deviation in a mode (R141). -/
def judge (s : State) (m : DriveMode) (dev : Int) : Finding :=
  match m with
  | .propel =>
      if (slipOn s : Int) ≤ dev then .trigger
      else if dev < (slipOff s : Int) then .belowOff else .band
  | .retard =>
      if (slideOn s : Int) ≤ -dev then .trigger
      else if -dev < (slideOff s : Int) then .belowOff else .band

/-- A run at one wheel with its finding (R142, R143, R144); `m` is the mode of the last grant taken. The cap is
posted before the SLIP notice is raised (DESIGN CHOICE, assumption log 8). -/
def slipMove (w : Wheel) (m : DriveMode) (found : Finding) (s : State) : State :=
  let r := s.steering.slips.get w
  match r.state, found with
  | .normal, .trigger =>
      slipNotice w .trigger (updSlip w (fun r => { r with state := .suspect, modeAt := some m }) s)
  | .normal, _ => s
  | .suspect, .trigger =>
      let at' := r.modeAt.getD m
      moveSlip w .slipping .trigger
        (postCap w at' (cutOf s (s.steering.lastGrant.torque.get w)) s)
  | .suspect, _ =>
      slipNotice w .clear (updSlip w (fun r => { r with state := .normal, modeAt := none }) s)
  | .slipping, .trigger => postCap w (r.modeAt.getD m) (cutOf s (r.cap.getD 0)) s
  | .slipping, .band => s
  | .slipping, .belowOff => moveSlip w .recovering .belowOff s
  | .recovering, .trigger =>
      moveSlip w .slipping .trigger (postCap w (r.modeAt.getD m) (cutOf s (r.cap.getD 0)) s)
  | .recovering, _ => restoreSlip w (r.modeAt.getD m) (r.cap.getD 0) .restored s

/-- A run that is not suspended at one wheel: the expected speed and the deviation are formed, and the
finding moves the record (R140 to R144). -/
def judgedRun (w : Wheel) (s : State) : State :=
  match driveMode? s.steering.lastGrant.mode with
  | none => s
  | some m =>
      let expected := expectedSpeed s w
      let dev := deviationOf (s.capture.wheels.get w).rpm expected
      slipMove w m (judge s m dev)
        (updSlip w (fun r => { r with expected := expected, deviation := dev }) s)

/-- Slip detection at one wheel (R139, R140). -/
def detectSlip (w : Wheel) (s : State) : State :=
  if slipSuspended s then suspendedRun w s else judgedRun w s

/-- One steering run (R130): the angle, STEER, then slip detection left and right. The timer restarts
with 20 ms. -/
def steeringRun (s : State) : State :=
  detectSlip .right (detectSlip .left (evalSteer (readAngle
    (updSteering (fun u => { u with timer := startMs 20 }) s))))

/-- A publication ends a slip found in the other mode (R138). -/
def slipModeChange (g : GrantMode) (w : Wheel) (s : State) : State :=
  let r := s.steering.slips.get w
  match driveMode? g with
  | none => s
  | some m => if r.state != .normal && r.modeAt != some m then endSlip w .modeChange s else s

/-- A publication taken by the Steering Monitor (R138). Where it ends the slip of both wheels the left
wheel's contributions and notices come first, as in a steering run; R138 gives no order (DESIGN CHOICE,
assumption log 35). -/
def steeringPublication (g : Grant) (s : State) : State :=
  slipModeChange g.mode .right (slipModeChange g.mode .left (updSteering (fun u => { u with
    lastGrant :=
      { mode := g.mode
        torque := ⟨g.wheels.left.torque, g.wheels.right.torque⟩
        capability := ⟨g.wheels.left.capability, g.wheels.right.capability⟩
        pass := g.pass } }) s))

end Sys2Proof.Machine
end

