-- ==== Sys2Proof/Machine/Banks.lean ====
section
/-! DEFINITION. The banks of the Grid Drive Unit without their failures: availability and the GRID
contribution (R123, R124), closing and opening (R110, R111, R112, R114, R116), the chopper gate
(R121), duty from the published grants (R125, R126), and the overvoltage dump (R127). -/

namespace Sys2Proof.Machine

/-- A state with the Grid Drive Unit changed. -/
def updGrid (f : GridUnit → GridUnit) (s : State) : State := s.withGrid (f s.grid)

/-- A bank of the state. -/
def bankOf (s : State) (b : BankId) : Bank := s.grid.banks.get b

/-- A bank's available power (R123). -/
def availOf (s : State) (b : BankId) (k : Bank) : Nat :=
  if k.contactor = .closed ∧ k.levelSeen ≠ .trip then pRated s b * k.derateSeen / 1000 else 0

/-- A state with a bank changed; its available power is worked out again (R123). -/
def updBank (b : BankId) (f : Bank → Bank) (s : State) : State :=
  let k := f (bankOf s b)
  updGrid (fun g => { g with banks := g.banks.set b { k with avail := availOf s b k } }) s

/-- A BANK notice of a bank as it stands (R118). -/
def bankNotice (b : BankId) (cause : BankCause) (s : State) : State :=
  let k := bankOf s b
  offer (.bank b k.contactor k.failure k.feedback k.avail cause) s

/-- GRID posted once at the end of an event in which either bank's available power changed since
`before`: into slot 1, into the GRID value, and to the Grade Hold Unit (R124). That it is posted at the end, and
the ENVELOPE notice before a BRAKE notice, is DEDUCED (assumption log 14). -/
def postGrid (before : GridUnit) (s : State) : State :=
  let now := s.grid.banks
  if now.one.avail = before.banks.one.avail ∧ now.two.avail = before.banks.two.avail then s
  else
    let total := now.one.avail + now.two.avail
    holdGridEvent total (internalPost 1 total (updGrid (fun g => { g with gridValue := total }) s))

/-- An event at the banks, with the GRID post that follows it (R124). -/
def gridEvent (effect : State → State) (s : State) : State := postGrid s.grid (effect s)

/-! ### Closing and opening -/

/-- The conditions of a close (R111). -/
def mayClose (g : GridUnit) (k : Bank) : Bool :=
  g.committed && g.modeSeen == .active && k.contactor == .open && !k.feedback && k.levelSeen != .trip

/-- The close test: when it passes the bank enters CLOSING, its command set and its handshake timer
started with 150 ms (R111). -/
def closeTest (b : BankId) (cause : BankCause) (s : State) : State :=
  if mayClose s.grid (bankOf s b) then
    bankNotice b cause (updBank b (fun k =>
      { k with contactor := .closing, command := true, handshake := startMs 150 }) s)
  else s

/-- The OPEN watch of a committed bank that is OPEN with its feedback present: 150 ms (R116). -/
def openWatch (b : BankId) (s : State) : State :=
  if s.grid.committed && (bankOf s b).contactor == .open && (bankOf s b).feedback then
    updBank b (fun k => { k with handshake := startMs 150 }) s
  else s

/-- A bank enters OPEN: the command released, the handshake timer stopped, no failure cause; then the
OPEN watch or the close test (R110, R111, R112, R115, R116, R117). -/
def enterOpen (b : BankId) (cause : BankCause) (s : State) : State :=
  closeTest b cause (openWatch b (bankNotice b cause (updBank b (fun k =>
    { k with contactor := .open, command := false, handshake := none, failure := none }) s)))

/-- An open is asked for: a CLOSING bank enters OPEN at once (R112); a CLOSED one clears its enable
request and waits for a period boundary (R114); in the other states nothing happens. The CLOSING bank
changes its state once, so one BANK notice is raised, for OPEN; the example in R118 can be read as asking
for one for CLOSING as well (DEDUCED, assumption log 33). -/
def askOpen (b : BankId) (cause : BankCause) (s : State) : State :=
  let k := bankOf s b
  match k.contactor with
  | .closing => enterOpen b cause s
  | .closed =>
      if k.openPending then s
      else updBank b (fun k => { k with enableRequested := false, openPending := true }) s
  | .open => s
  | .opening => s
  | .failed => s

/-- A change into ACTIVE at one bank: an OPEN bank is tested for a close; a CLOSED one with an open
pending takes it back, unless the level seen is TRIP (R111). -/
def bankIntoActive (b : BankId) (s : State) : State :=
  let k := bankOf s b
  if k.contactor = .closed ∧ k.openPending ∧ k.levelSeen ≠ .trip then
    updBank b (fun k => { k with openPending := false, enableRequested := true }) s
  else closeTest b .mode s

/-- A change of governor mode at the Grid Drive Unit (R111, R112, R114). Bank 1 comes before bank 2 (DESIGN
CHOICE, assumption log 8). -/
def gridModeEvent (new : GovMode) (s : State) : State :=
  let old := s.grid.modeSeen
  let s := updGrid (fun g => { g with modeSeen := new }) s
  if new = .active then bankIntoActive .two (bankIntoActive .one s)
  else if old = .active then askOpen .two .mode (askOpen .one .mode s)
  else s

/-! ### The chopper gate and the period boundary -/

/-- A bank whose chopper is stopped at once: enables and duties cleared, the gate off (R113, R117, R121). -/
def stopChopper (k : Bank) : Bank :=
  { k with enableRequested := false, enableActive := false, dutyPending := 0, dutyActive := 0,
           gate := false, onTime := none }

/-- The gate at a period boundary (R121): on for floor(duty active × chopper period / 1000) µs, all the
period at duty 1000, off at duty 0 and while enable active is clear. -/
def gateAtBoundary (period : Nat) (k : Bank) : Bank :=
  let on := k.dutyActive * period / 1000
  if !k.enableActive || on == 0 then { k with gate := false, onTime := none }
  else if period ≤ on then { k with gate := true, onTime := none }
  else { k with gate := true, onTime := startUs on }

/-- The pending duty and enable taken at a boundary, unless the dump holds the bank (R120). -/
def takePending (k : Bank) : Bank :=
  if k.dump then k
  else { k with dutyActive := k.dutyPending, enableActive := k.enableRequested }

/-- A pending open completed at a boundary: OPENING, with 150 ms for the feedback to fall; a feedback
already absent makes it OPEN in the same event (R114, R115). -/
def completeOpen (b : BankId) (s : State) : State :=
  let s := bankNotice b .boundary (updBank b (fun k =>
    { stopChopper k with contactor := .opening, command := false, openPending := false,
                         handshake := startMs 150 }) s)
  if (bankOf s b).feedback then s else enterOpen b .boundary s

/-- A period boundary of a bank (R119, R120, R121). -/
def boundaryEvent (b : BankId) (s : State) : State :=
  let period := chopperPeriod s
  let s := updBank b (fun k => takePending { k with boundary := startUs period }) s
  let s := if (bankOf s b).openPending && !(bankOf s b).enableActive then completeOpen b s else s
  updBank b (gateAtBoundary period) s

/-- The end of a gate's on-time within its period (R121). -/
def onTimeEnd (b : BankId) (s : State) : State :=
  updBank b (fun k => { k with gate := false, onTime := none }) s

/-! ### Duty from the published grants -/

/-- The retard power of one wheel in a record, in kW (R125). -/
def wheelPower (w : WheelGrant) : Nat := w.torque * w.speedUsed / 9549

/-- P_req of a record (R125). -/
def retardPowerOf (g : Grant) : Nat :=
  if g.mode = .retard then wheelPower g.wheels.left + wheelPower g.wheels.right else 0

/-- The split of the power to dissipate between the banks by their available powers (R125). -/
def splitPower (p a1 a2 : Nat) : PerBank Nat :=
  if 0 < a1 ∧ 0 < a2 then ⟨p * a1 / (a1 + a2), p - p * a1 / (a1 + a2)⟩
  else if 0 < a1 then ⟨p, 0⟩
  else if 0 < a2 then ⟨0, p⟩
  else ⟨0, 0⟩

/-- The duty that takes a power at a link voltage, rounded up (R126). -/
def dutyFor (v p r : Nat) : Nat :=
  if v < 100 then 0 else min 1000 (ceilDiv (p * 1000 * r) (v * v))

/-- A publication taken by the Grid Drive Unit: the power, its split, and the pending duties (R125, R126). -/
def gridPublication (g : Grant) (s : State) : State :=
  let v := s.capture.link.v
  let pReq := retardPowerOf g
  let pDis := pReq - auxKw s
  let p := splitPower pDis (bankOf s .one).avail (bankOf s .two).avail
  let s := updGrid (fun u => { u with lastPass := g.pass, lastMode := g.mode, pReq := pReq,
                                      pDis := pDis, vUsed := v }) s
  let s := updBank .one (fun k =>
    { k with share := p.one, dutyPending := dutyFor v p.one (resistance s .one) }) s
  updBank .two (fun k =>
    { k with share := p.two, dutyPending := dutyFor v p.two (resistance s .two) }) s

/-! ### The overvoltage dump -/

/-- The dump takes hold of a bank: duty active 1000, enable active set, the gate on at once (R127). -/
def dumpBank (k : Bank) : Bank :=
  { k with dump := true, dutyActive := 1000, enableActive := true, gate := true, onTime := none }

/-- The dump takes hold of a bank that is CLOSED (R127). -/
def dumpIfClosed (k : Bank) : Bank := if k.contactor = .closed then dumpBank k else k

/-- Dump start (R127). -/
def dumpStart (s : State) : State :=
  updBank .two dumpIfClosed (updBank .one dumpIfClosed (updGrid (fun g => { g with dumpOn := true }) s))

/-- Dump end: each bank takes its pending duty and enable at its own next boundary (R127). -/
def dumpEnd (s : State) : State :=
  updBank .two (fun k => { k with dump := false })
    (updBank .one (fun k => { k with dump := false }) (updGrid (fun g => { g with dumpOn := false }) s))

/-! ### Level events from the Overload Monitor -/

/-- A change of a bank's thermal level or derate factor (R122): into TRIP an open is asked for, out of
TRIP the close test is made. -/
def bankLevelEvent (b : BankId) (level : Level) (derate : Nat) (s : State) : State :=
  let was := (bankOf s b).levelSeen
  let s := updBank b (fun k => { k with levelSeen := level, derateSeen := derate }) s
  if level = .trip ∧ was ≠ .trip then askOpen b .thermal s
  else if level ≠ .trip ∧ was = .trip then closeTest b .thermal s
  else s

end Sys2Proof.Machine
end

