-- ==== Sys2Proof/Machine/Resolver.lean ====
section
/-! DEFINITION. The Effort Resolver: the eight stages of a pass (R70 to R83), the grant record and its
publication (R84 to R86), and the forced record (R87). -/

namespace Sys2Proof.Machine

/-! ### Stage 1: effort, direction and mode -/

/-- What stage 1 settles: the demand's flags, the axle direction, whether a change of direction is
held, and the mode with its effort Q (R70, R71, R72). -/
structure StageOne where
  axle  : Direction
  held  : Bool
  mode  : GrantMode
  q     : Nat
  stale : Bool
  handover : Bool
deriving DecidableEq, Repr

/-- The mode and effort from the two efforts and the axle direction: retard prevails (R72). -/
def modeOf (bq pq : Nat) (axle : Direction) : GrantMode × Nat :=
  if 0 < bq then (.retard, bq)
  else if 0 < pq ∧ axle ≠ .neutral then (.propel, pq)
  else (.neutral, 0)

/-- Stage 1 from a demand, the hold effort, the axle direction and the stationary flag (R70 to R72). -/
def stageOne (d : EffDemand) (bHold : Nat) (axle : Direction) (stationary : Bool) : StageOne :=
  let bq := max d.retard bHold
  let held := d.direction != axle && !stationary
  let axle' := if held then axle else d.direction
  let pq := if held ∨ axle' = .neutral then 0 else d.propel
  { axle := axle', held := held, mode := (modeOf bq pq axle').1, q := (modeOf bq pq axle').2,
    stale := d.stale, handover := d.handover }

/-- The demand and hold effort of a pass: the effective demand and B_hold in ACTIVE, the neutral demand
and 0 in READY (R69, R70). -/
def passEfforts (s : State) : StageOne :=
  if s.governor.mode = .active then
    stageOne (effectiveDemand (some s.resolver.axle) s) s.hold.ctx.bHold s.resolver.axle
      s.capture.stationary
  else stageOne neutralDemand 0 s.resolver.axle s.capture.stationary

/-! ### Stage 2: speeds used -/

/-- The speed used of a wheel (R73): its own rpm, its partner's when its channel is in FAULT, the last
valid pair's when both are. -/
def speedUsed (s : State) (w : Wheel) : Nat :=
  if bothFault s then s.capture.lastPair.get w
  else if wheelFault s w then (s.capture.wheels.get (otherWheel w)).rpm
  else (s.capture.wheels.get w).rpm

/-- rpm', the speed used raised to rpm_floor (R73). -/
def rpmPrime (s : State) (w : Wheel) : Nat := max (speedUsed s w) (rpmFloor s)

/-! ### Stage 3: capability -/

/-- A table of breakpoints read at a speed (R74): the first torque at or below the first speed, the
last torque at or above the last, and between two breakpoints a straight line rounded down. -/
def readCurve : List (Nat × Nat) → Nat → Nat
  | [], _ => 0
  | [(_, t)], _ => t
  | (s0, t0) :: (s1, t1) :: rest, u =>
      if u ≤ s0 then t0
      else if u < s1 then
        ((t0 : Int) + ((t1 : Int) - (t0 : Int)) * ((u : Int) - (s0 : Int)) /
          ((s1 : Int) - (s0 : Int))).toNat
      else readCurve ((s1, t1) :: rest) u

/-- The capability of a wheel (R74, R75). -/
def capability (s : State) (m : GrantMode) (w : Wheel) : Nat :=
  if !inverterReady s w then 0
  else
    match m with
    | .neutral => 0
    | .propel => if bothFault s then 0 else readCurve (propelTable s) (speedUsed s w)
    | .retard => readCurve (retardTable s) (speedUsed s w)

/-! ### Stages 4 to 7 -/

/-- The request of a wheel (R76). -/
def requestOf (q capL capR share : Nat) : Nat := q * (capL + capR) * share / 1000000

/-- A term of a cap: its value, its binding, and the source when it is a limit (R77, R79). -/
abbrev Term := Nat × Binding × Option Source

/-- The term an envelope field gives, none when it is OPEN (R77, R79). -/
def limitTerm : Option Bound → List Term
  | some b => [(b.value, .limit, some b.source)]
  | none => []

/-- The taper term (R78). -/
def taperTerm (s : State) (c : Nat) : List Term :=
  match s.limits.envelope.speed with
  | none => []
  | some b =>
      let v := s.capture.v
      let band := taperBand s
      if b.value ≤ v then [(0, .taper, none)]
      else if b.value < v + band then [(c * (b.value - v) / band, .taper, none)]
      else []

/-- The power share of a wheel (R79). -/
def powerShare (p share rpm' : Nat) : Nat := p * share * 9549 / (1000 * rpm')

/-- The power-share term (R79): RETARD_POWER is never OPEN at a pass, since GRID is present from commit. -/
def powerTerm (s : State) (w : Wheel) : List Term :=
  match s.limits.envelope.retardPower with
  | some b => [(powerShare b.value (s.steering.shares.get w) (rpmPrime s w), .powerShare, none)]
  | none => []

/-- The propel and retard fields of a wheel (R35). -/
def propelField (s : State) : Wheel → Option Bound
  | .left => s.limits.envelope.propelL
  | .right => s.limits.envelope.propelR

/-- The retard torque field of a wheel (R35). -/
def retardField (s : State) : Wheel → Option Bound
  | .left => s.limits.envelope.retardTqL
  | .right => s.limits.envelope.retardTqR

/-- The terms of a wheel's cap after its capability, in the order R83 names them. -/
def otherTerms (s : State) (m : GrantMode) (w : Wheel) (c : Nat) : List Term :=
  match m with
  | .neutral => []
  | .propel => limitTerm (propelField s w) ++ taperTerm s c
  | .retard => limitTerm (retardField s w) ++ powerTerm s w

/-- The smallest of the capability and the other terms (R77, R79). -/
def capOf (c : Nat) (terms : List Term) : Nat := terms.foldl (fun m t => min m t.1) c

/-- The term that set the cap: the first equal to it, the capability first (R83). -/
def bindingTerm (c : Nat) (terms : List Term) : Binding × Option Source :=
  if c = capOf c terms then (.capability, none)
  else
    match terms.find? (fun t => t.1 == capOf c terms) with
    | some t => t.2
    | none => (.capability, none)

/-- The grant from a target and the previous torque (R82). -/
def slewed (sameMode : Bool) (target prev slew : Nat) : Nat :=
  if sameMode then (if prev < target then min target (prev + slew) else target)
  else min target slew

/-- The slew step of a mode (R82). -/
def slewStep (s : State) : GrantMode → Nat
  | .propel => propelSlew s
  | .retard => retardSlew s
  | .neutral => 0

/-- The binding of a wheel's grant (R83). -/
def bindingOf (m : GrantMode) (grant target request cap c : Nat) (terms : List Term) :
    Binding × Option Source :=
  if m = .neutral then (.zero, none)
  else if grant < target then (.slew, none)
  else if request < cap then (.request, none)
  else bindingTerm c terms

/-- Stages 3 to 7 for one wheel (R74 to R83). -/
def wheelGrant (s : State) (m : GrantMode) (q : Nat) (w : Wheel) : WheelGrant :=
  let c := capability s m w
  let terms := otherTerms s m w c
  let cap := if m = .neutral then 0 else capOf c terms
  let request := requestOf q (capability s m .left) (capability s m .right) (s.steering.shares.get w)
  let target := min request cap
  let torque := slewed (m == s.resolver.last.mode) target (s.resolver.last.wheels.get w).torque
    (slewStep s m)
  let b := bindingOf m torque target request cap c terms
  { torque := torque, cap := cap, capability := c, speedUsed := rpmPrime s w, binding := b.1,
    bindingSource := b.2 }

/-- The record a pass publishes (R84, R85). -/
def passRecord (s : State) : Grant :=
  let one := passEfforts s
  { pass := s.resolver.pass + 1
    mode := one.mode
    axle := one.axle
    wheels := ⟨wheelGrant s one.mode one.q .left, wheelGrant s one.mode one.q .right⟩
    demandStale := one.stale
    handover := one.handover
    holdEngaged := holdEngaged s.hold.ctx
    brakeLine := s.hold.brake.asserted
    directionHeld := one.held
    forced := false }

/-! ### Stage 8: publication -/

/-- A record published and handed to the three blocks that take it (R85, R86). -/
def publish (g : Grant) (s : State) : State :=
  let s := s.withResolver { s.resolver with pass := g.pass, axle := g.axle, last := g,
                                            previous := s.resolver.last }
  steeringPublication g (holdPublication g (gridPublication g s))

/-- The expiry of the resolution timer (R67): it restarts, and a pass is run in READY and ACTIVE. -/
def resolutionExpiry (s : State) : State :=
  let s := s.withResolver { s.resolver with timer := startMs 5 }
  if s.governor.mode = .ready ∨ s.governor.mode = .active then publish (passRecord s) s else s

/-- A wheel of the forced record (R87). -/
def forcedWheel (w : WheelGrant) : WheelGrant := { WheelGrant.zero with speedUsed := w.speedUsed }

/-- The forced record (R87). -/
def forcedRecord (s : State) : Grant :=
  let last := s.resolver.last
  { pass := last.pass
    mode := .neutral
    axle := s.resolver.axle
    wheels := ⟨forcedWheel last.wheels.left, forcedWheel last.wheels.right⟩
    demandStale := false
    handover := false
    holdEngaged := false
    brakeLine := s.hold.brake.asserted
    directionHeld := false
    forced := true }

end Sys2Proof.Machine
end

