-- ==== Sys2Proof/Machine/Governor.lean ====
section
/-! DEFINITION. Governor Control's own part of an event: changes of mode and their handing on (R169,
R170), latches (R172, R173), authority events (R55, R169), and the clear conditions (R174). -/

namespace Sys2Proof.Machine

/-- A state with Governor Control changed. -/
def updGovernor (f : Governor → Governor) (s : State) : State := s.withGovernor (f s.governor)

/-- The mode set, with its MODE notice (R168, R170). -/
def setMode (new : GovMode) (cause : ModeCause) (s : State) : State :=
  let old := s.governor.mode
  offer (.mode new old cause) (updGovernor (fun g => { g with mode := new, previous := some old }) s)

/-- A change of mode, handed on to the three blocks that act on it: the Grade Hold Unit, then the
Effort Resolver, whose forced record shows the line as that unit then holds it (R87, R99), then the
Grid Drive Unit (R170). The order of the MODE, BRAKE and BANK notices is the model's (DESIGN CHOICE,
assumption log 8). -/
def changeMode (new : GovMode) (cause : ModeCause) (s : State) : State :=
  let old := s.governor.mode
  let s := holdModeEvent new (setMode new cause s)
  let s := if old = .active then publish (forcedRecord s) s else s
  gridModeEvent new s

/-- An authority event: whether authority is held, as the Authority Unit hands it on (R55, R169). -/
def authorityEvent (held : Bool) (s : State) : State :=
  let s := updGovernor (fun g => { g with authorityHeld := held }) s
  match s.governor.mode, held with
  | .ready, true => changeMode .active .authorityHeld s
  | .active, false => changeMode .ready .authorityVacant s
  | _, _ => s

/-- A cause added to a trip set. The set is kept, and listed to masters, in the order of the cause codes of
R168; the manual gives a set of causes no order (DESIGN CHOICE, assumption log 40). -/
def addCause (c : TripCause) (set : List TripCause) : List TripCause :=
  allCauses.filter fun x => x == c || set.contains x

/-- Whether a trip set holds a cause of a class. -/
def hasClass (k : TripClass) (set : List TripCause) : Bool := set.any fun c => c.tripClass == k

/-- A latch of a cause of class DRIVE changes the mode in READY and ACTIVE (R169, R173). -/
def latchInhibits (c : TripCause) (m : GovMode) : Bool :=
  c.tripClass == .drive && (m == .ready || m == .active)

/-- The trip set and the first-cause record after a latch of a cause that is absent (R172). -/
def latchRecord (c : TripCause) (s : State) : State :=
  updGovernor (fun g => { g with
    trips := addCause c g.trips
    firstCause :=
      if g.trips.isEmpty then
        some { cause := c, mode := g.mode, v := s.capture.v, vValid := s.capture.vValid,
               pass := s.resolver.last.pass }
      else g.firstCause }) s

/-- A latch (R172, R173): the cause joins the set with its TRIP notice; the first PROPEL cause posts
the TRIP contribution of 0; a DRIVE cause in READY or ACTIVE takes the mode to INHIBIT. -/
def latch (c : TripCause) (s : State) : State :=
  if s.governor.trips.contains c then s
  else
    let inhibits := latchInhibits c s.governor.mode
    let firstPropel := c.tripClass == .propel && !hasClass .propel s.governor.trips
    let s := latchRecord c s
    let s := offer (.trip c .latched s.governor.trips.length
      (if inhibits then .inhibit else s.governor.mode)) s
    let s := if firstPropel then internalPost 0 0 s else s
    if inhibits then changeMode .inhibit (.trip c) s else s

/-- θ of an element lies below its class's warm_on − h (R159, R174). -/
def coolEnough (s : State) (e : Element) : Bool :=
  decide ((s.overload.integrators.get e).theta + hysteresis s e < warmOn s e)

/-- A bank's contactor cause may clear: its failure cause is not WELDED, or its feedback is absent (R174). -/
def contactorClears (s : State) (b : BankId) : Bool :=
  (bankOf s b).failure != some .welded || !(bankOf s b).feedback

/-- The clear condition of a cause, as the owner's state stands (R174). -/
def clearHolds (s : State) : TripCause → Bool
  | .linkOvervoltage => decide (s.capture.link.v < vDump s) && s.capture.stationary
  | .linkSenseLost => s.capture.link.state == .ok && s.capture.stationary
  | .speedSenseLost => !bothFault s
  | .motorLThermal => coolEnough s .ml
  | .motorRThermal => coolEnough s .mr
  | .grid1Thermal => coolEnough s .g1
  | .grid2Thermal => coolEnough s .g2
  | .grid1Contactor => contactorClears s .one
  | .grid2Contactor => contactorClears s .two

end Sys2Proof.Machine
end

