-- ==== Sys2Proof/Machine/Grid.lean ====
section
/-! DEFINITION. The contactor events of the Grid Drive Unit: feedback edges (R108, R112, R113, R115,
R116), the handshake timeout, entry into FAILED and the clear of a failed bank (R117). -/

namespace Sys2Proof.Machine

/-- The contactor cause of a bank (R117, R168). -/
def contactorCause : BankId → TripCause
  | .one => .grid1Contactor
  | .two => .grid2Contactor

/-- A bank record in FAILED (R117). -/
def failedBank (cause : FailCause) (k : Bank) : Bank :=
  { stopChopper k with contactor := .failed, failure := some cause, command := false,
                       handshake := none, openPending := false, dump := false }

/-- Entry into FAILED: the record, the BANK notice, and the latch handed to Governor Control (R117). -/
def failBank (b : BankId) (cause : FailCause) (why : BankCause) (s : State) : State :=
  latch (contactorCause b) (bankNotice b why (updBank b (failedBank cause) s))

/-- A bank record entering CLOSED on its feedback (R112); a dump in force takes hold of it (R127). -/
def closedBank (dumpOn : Bool) (k : Bank) : Bank :=
  let k := { k with contactor := .closed, handshake := none, enableRequested := true }
  if dumpOn then dumpBank k else k

/-- A rising edge at KFBn: recorded always; after commit it closes a CLOSING bank and starts the OPEN
watch of an OPEN one (R108, R112, R116). -/
def feedbackRise (b : BankId) (s : State) : State :=
  let s := updBank b (fun k => { k with feedback := true }) s
  if s.grid.committed then
    match (bankOf s b).contactor with
    | .open => openWatch b s
    | .closing => bankNotice b .feedback (updBank b (closedBank s.grid.dumpOn) s)
    | .closed => s
    | .opening => s
    | .failed => s
  else s

/-- A falling edge at KFBn: recorded always; after commit it fails a CLOSED bank, opens an OPENING one,
and stops the OPEN watch of an OPEN one (R108, R113, R115, R116). -/
def feedbackFall (b : BankId) (s : State) : State :=
  let s := updBank b (fun k => { k with feedback := false }) s
  if s.grid.committed then
    match (bankOf s b).contactor with
    | .open => closeTest b .feedback (updBank b (fun k => { k with handshake := none }) s)
    | .closing => s
    | .closed => failBank b .dropped .feedback s
    | .opening => enterOpen b .feedback s
    | .failed => s
  else s

/-- A handshake timer runs out: NO_CLOSE in CLOSING, WELDED in OPENING and, with the feedback present,
in OPEN (R112, R115, R116). -/
def handshakeExpiry (b : BankId) (s : State) : State :=
  let s := updBank b (fun k => { k with handshake := none }) s
  match (bankOf s b).contactor with
  | .open => if (bankOf s b).feedback then failBank b .welded .timeout s else s
  | .closing => failBank b .noClose .timeout s
  | .closed => s
  | .opening => failBank b .welded .timeout s
  | .failed => s

/-- The clear event of a failed bank: it enters OPEN with no failure cause, and is watched or tested
for a close (R117). -/
def clearBank (b : BankId) (s : State) : State :=
  if (bankOf s b).contactor = .failed then enterOpen b .clear s else s

end Sys2Proof.Machine
end

