-- ==== Sys2Proof/Machine/Overload.lean ====
section
/-! DEFINITION. The Overload Monitor: loads and heat (R152, R153), the thermal ladder and its effects
(R154 to R158), the clear of an integrator (R159), the payload ladder (R161, R162), link protection
(R163, R164) and speed loss (R165). -/

namespace Sys2Proof.Machine

/-- A state with the Overload Monitor changed. -/
def updOverload (f : OverloadUnit → OverloadUnit) (s : State) : State := s.withOverload (f s.overload)

/-- An integrator of the state. -/
def integratorOf (s : State) (e : Element) : Integrator := s.overload.integrators.get e

/-- A state with an integrator changed. -/
def updIntegrator (e : Element) (f : Integrator → Integrator) (s : State) : State :=
  updOverload (fun u => { u with integrators := u.integrators.set e (f (u.integrators.get e)) }) s

/-- The wheel of a motor, or the bank of a grid element (R151). -/
inductive Heated
  | motor (w : Wheel)
  | bank (b : BankId)
deriving DecidableEq, Repr

/-- What an element is (R151). -/
def heatedOf : Element → Heated
  | .ml => .motor .left
  | .mr => .motor .right
  | .g1 => .bank .one
  | .g2 => .bank .two

/-! ### Load and heat -/

/-- The load of a motor (R152). -/
def motorLoad (s : State) (w : Wheel) : Nat :=
  match s.overload.report.freshness with
  | .fresh => s.overload.report.current.get w * 1000 / iRated s
  | .stale => staleLoad s

/-- The power a bank takes at its duty in force, in kW (R152). -/
def bankPower (s : State) (b : BankId) : Nat :=
  let v := s.capture.link.v
  (bankOf s b).dutyActive * (v * v) / (resistance s b * 1000)

/-- The load of a bank (R152). -/
def bankLoad (s : State) (b : BankId) : Nat :=
  if (bankOf s b).enableActive then bankPower s b * 1000 / pRated s b else 0

/-- The load of an element, clamped to 0..3000 (R152). -/
def loadOf (s : State) (e : Element) : Nat :=
  min 3000 (match heatedOf e with
    | .motor w => motorLoad s w
    | .bank b => bankLoad s b)

/-- The heat after an update with load L (R153). -/
def heatAfter (tau heat load : Nat) : Nat :=
  clampInt 0 (2000 * tau)
    ((heat : Int) + ((load * load / 1000 : Nat) : Int) - ((heat / tau : Nat) : Int))

/-- An integrator's heat, θ and last load after an update (R153). -/
def heatStep (tau load : Nat) (i : Integrator) : Integrator :=
  let h := heatAfter tau i.heat load
  { i with heat := h, theta := h / tau, lastLoad := load }

/-! ### The ladder -/

/-- The level θ gives (R154). -/
def levelOf (s : State) (e : Element) (theta : Nat) : Level :=
  if theta < warmOn s e then .normal
  else if theta < derateOn s e then .warm
  else if theta < tripOn s e then .derate
  else .trip

/-- The derate factor (R156). -/
def derateOf (s : State) (e : Element) (level : Level) (theta : Nat) : Nat :=
  match level with
  | .normal => 1000
  | .warm => 1000
  | .derate =>
      clampInt (dMin s e) 1000 (1000 - ((1000 : Int) - dMin s e) * ((theta : Int) - derateOn s e) /
        ((tripOn s e : Int) - derateOn s e))
  | .trip => dMin s e

/-- θ lies below the fall threshold of a level (R155): warm_on − h in WARM, derate_on − h in DERATE. -/
def belowFall (s : State) (e : Element) (level : Level) (theta : Nat) : Bool :=
  match level with
  | .warm => decide (theta + hysteresis s e < warmOn s e)
  | .derate => decide (theta + hysteresis s e < derateOn s e)
  | .normal => false
  | .trip => false

/-- The dwell timer after an update that has not raised the level (R155). -/
def dwellAfter (s : State) (e : Element) (i : Integrator) : Timer :=
  if belowFall s e i.level i.theta then
    match i.dwell with
    | some n => some n
    | none => startMs (dwellTime s e)
  else none

/-- The thermal cause of an element (R154, R168). -/
def thermalCause : Element → TripCause
  | .ml => .motorLThermal
  | .mr => .motorRThermal
  | .g1 => .grid1Thermal
  | .g2 => .grid2Thermal

/-- The slots of a motor's THERMAL contributions, propel then retard (R21, R157). -/
def thermalSlots : Wheel → Nat × Nat
  | .left => (8, 9)
  | .right => (10, 11)

/-- What a motor's two THERMAL contributions hold (R157). -/
def thermalValues (s : State) (e : Element) (i : Integrator) : Option Nat × Option Nat :=
  match i.level with
  | .normal => (none, none)
  | .warm => (none, none)
  | .derate => (some (tRated s * i.derate / 1000), some (tRated s * i.derate / 1000))
  | .trip => (some 0, some (tRated s * dMin s e / 1000))

/-- The effects of an integrator's level and d, `before` being the integrator before the event: the
motor's contributions (R157), or an event to the bank when either has changed (R158). -/
def thermalEffects (e : Element) (before : Integrator) (s : State) : State :=
  let i := integratorOf s e
  match heatedOf e with
  | .motor w =>
      internalSet (thermalSlots w).2 (thermalValues s e i).2
        (internalSet (thermalSlots w).1 (thermalValues s e i).1 s)
  | .bank b =>
      if i.level = before.level ∧ i.derate = before.derate then s
      else bankLevelEvent b i.level i.derate s

/-- A LEVEL notice of an integrator as it stands (R160). -/
def levelNotice (e : Element) (cause : LevelCause) (s : State) : State :=
  let i := integratorOf s e
  offer (.level e i.level i.theta i.derate cause) s

/-- An integrator's level and d set (R154, R155, R156). -/
def setLevel (e : Element) (level : Level) (dwell : Timer) (s : State) : State :=
  updIntegrator e (fun i => { i with level := level, dwell := dwell,
                                     derate := derateOf s e level i.theta }) s

/-- The place of a level on the ladder. -/
def Level.rank : Level → Nat
  | .normal => 0
  | .warm => 1
  | .derate => 2
  | .trip => 3

/-- The ladder of one integrator at an update, after its heat (R154 to R158): a rise at once, with its
LEVEL notice and the latch on TRIP; otherwise the dwell timer is kept; d and its effects follow. The LEVEL
notice before those of the latch and of the effects is the model's order (DESIGN CHOICE, assumption log 8). -/
def ladderStep (e : Element) (before : Integrator) (s : State) : State :=
  let i := integratorOf s e
  let given := levelOf s e i.theta
  if i.level ≠ .trip ∧ i.level.rank < given.rank then
    let s := levelNotice e .rise (setLevel e given none s)
    let s := if given = .trip then latch (thermalCause e) s else s
    thermalEffects e before s
  else
    thermalEffects e before (setLevel e i.level (dwellAfter s e i) s)

/-- The heat of the four integrators, each from the values read as the update begins (R152, R153). -/
def heatAll (s : State) : State :=
  updOverload (fun u => { u with
    integrators :=
      { ml := heatStep (tau s .ml) (loadOf s .ml) u.integrators.ml
        mr := heatStep (tau s .mr) (loadOf s .mr) u.integrators.mr
        g1 := heatStep (tau s .g1) (loadOf s .g1) u.integrators.g1
        g2 := heatStep (tau s .g2) (loadOf s .g2) u.integrators.g2 } }) s

/-- One overload update (R152 to R158): loads, heat, then the ladders of ML, MR, G1 and G2. The timer
restarts with 100 ms. -/
def overloadUpdate (s : State) : State :=
  let before := s.overload.integrators
  let s := heatAll (updOverload (fun u => { u with timer := startMs 100 }) s)
  ladderStep .g2 before.g2 (ladderStep .g1 before.g1
    (ladderStep .mr before.mr (ladderStep .ml before.ml s)))

/-- The level below a level that a dwell can leave (R155). -/
def levelBelow? : Level → Option Level
  | .warm => some .normal
  | .derate => some .warm
  | .normal => none
  | .trip => none

/-- A dwell timer runs out (R155): the level falls one step, d and its effects follow, and the timer
starts again when the new level is WARM and θ is already below warm_on − h. The LEVEL notice comes before
the notices of the effects; R155 and R160 give no order (DESIGN CHOICE, assumption log 8). -/
def dwellExpiry (e : Element) (s : State) : State :=
  let before := integratorOf s e
  match levelBelow? before.level with
  | none => updIntegrator e (fun i => { i with dwell := none }) s
  | some lower =>
      let dwell := if belowFall s e lower before.theta then startMs (dwellTime s e) else none
      thermalEffects e before (levelNotice e .dwell (setLevel e lower dwell s))

/-- The clear event of an integrator (R159). -/
def clearIntegrator (e : Element) (s : State) : State :=
  let before := integratorOf s e
  levelNotice e .clear (thermalEffects e before
    (updIntegrator e (fun i => { i with level := levelOf s e i.theta, derate := 1000,
                                        dwell := none }) s))

/-! ### The payload ladder -/

/-- The payload level of a ratio: the highest threshold it reaches (R161). -/
def payloadLevelOf (s : State) (ratio : Nat) : PayloadLevel :=
  if overThreshold s 3 ≤ ratio then .over3
  else if overThreshold s 2 ≤ ratio then .over2
  else if overThreshold s 1 ≤ ratio then .over1
  else .none

/-- The speed cap of a payload level (R161). -/
def payloadCapOf (s : State) : PayloadLevel → Option Nat
  | .none => none
  | .over1 => some (overCap s 1)
  | .over2 => some (overCap s 2)
  | .over3 => some (overCap s 3)

/-- A payload handed by the Steering Monitor (R161, R162). The PAYLOAD notice comes before the ENVELOPE notice
of the contribution (DESIGN CHOICE, assumption log 8). -/
def payloadEvent (payload : Nat) (s : State) : State :=
  let before := s.overload.payload.level
  let ratio := payload * 1000 / ratedPayload s
  let level := payloadLevelOf s ratio
  let cap := payloadCapOf s level
  let s := updOverload (fun u => { u with
    payload := { payload := payload, ratio := ratio, level := level, cap := cap } }) s
  let s := if level = before then s else offer (.payload level ratio payload cap) s
  internalSet 3 cap s

/-! ### Link protection -/

/-- Whether the dump is called after a gate (R163). -/
def dumpAfter (vDump : Nat) (on : Bool) : GateResult → Bool
  | .good v => if on then decide (vDump ≤ v + 50) else decide (vDump ≤ v)
  | .senseLost => on

/-- The overvoltage run after a gate (R164). -/
def overRunAfter (vTrip run : Nat) : GateResult → Nat
  | .good v => if vTrip ≤ v then min 5 (run + 1) else 0
  | .senseLost => 0

/-- The sense-lost run after a gate (R164). -/
def lostRunAfter (run : Nat) : GateResult → Nat
  | .good _ => 0
  | .senseLost => min 2 (run + 1)

/-- A gate result taken by link protection, from commit on (R163, R164): the dump, then the latch when
a run reaches its top. -/
def gateEvent (g : GateResult) (s : State) : State :=
  let k := s.overload.link
  let dump := dumpAfter (vDump s) k.dump g
  let high := overRunAfter (vTrip s) k.overRun g
  let lost := lostRunAfter k.lostRun g
  let s := updOverload (fun u => { u with
    link := { dump := dump, overRun := high, lostRun := lost, lastGate := g } }) s
  let s := if dump && !k.dump then dumpStart s else if !dump && k.dump then dumpEnd s else s
  let s := if high = 5 ∧ k.overRun = 4 then latch .linkOvervoltage s else s
  if lost = 2 ∧ k.lostRun = 1 then latch .linkSenseLost s else s

end Sys2Proof.Machine
end

