-- ==== Sys2Proof/Machine/Capture.lean ====
section
/-! DEFINITION. The Capture Unit: wheel edges and their timer (R1 to R8), the steering angle (R9 to
R12), the link gate (R13, R14), and truck speed with the stationary flag, the last valid pair and the
speed-loss event (R15 to R19). -/

namespace Sys2Proof.Machine

/-- A state with the Capture Unit changed. -/
def updCapture (f : Capture → Capture) (s : State) : State := s.withCapture (f s.capture)

/-- A state with a wheel channel changed. -/
def updWheel (w : Wheel) (f : WheelChannel → WheelChannel) (s : State) : State :=
  updCapture (fun c => { c with wheels := c.wheels.set w (f (c.wheels.get w)) }) s

/-- The interval from one stamp to a later one, modulo the counter's wrap (R1). -/
def interval (earlier later : Stamp) : Nat := (later - earlier).toNat

/-! ### Truck speed -/

/-- v and its validity computed from the two channels; with both in FAULT v is held (R15). -/
def speedOf (k : Nat) (l r : WheelChannel) (held : Nat) : Nat × Bool :=
  match l.state == .fault, r.state == .fault with
  | false, false => (min 700 ((l.rpm + r.rpm) * k / 2000), true)
  | false, true => (min 700 (l.rpm * k / 1000), true)
  | true, false => (min 700 (r.rpm * k / 1000), true)
  | true, true => (held, false)

/-- v, its validity, the stationary flag and the last valid pair computed again from the channels as
they stand (R15, R16, R17). -/
def computeSpeed (s : State) : State :=
  let l := s.capture.wheels.left
  let r := s.capture.wheels.right
  let v := speedOf (kSpeed s) l r s.capture.v
  updCapture (fun c => { c with
    v := v.1
    vValid := v.2
    stationary := stationaryFlag v.1 v.2
    lastPair := if l.state = .fault ∨ r.state = .fault then c.lastPair else ⟨l.rpm, r.rpm⟩ }) s

/-! ### Wheel edges -/

/-- The noise limit (R3). -/
def minPeriod (s : State) : Nat := 60000000 / (rpmMaxValid s * teeth s)

/-- The rpm of a ring (R5); 0 while it is empty. -/
def rpmOf (teeth : Nat) (ring : List Nat) : Nat :=
  if ring.isEmpty then 0 else min 4000 (ring.length * 60000000 / (ring.sum * teeth))

/-- A period joins the ring; of four the oldest leaves (R4). -/
def joinRing (ring : List Nat) (period : Nat) : List Nat :=
  (if 4 ≤ ring.length then ring.drop 1 else ring) ++ [period]

/-- A valid period in STOPPED or TURNING (R4). -/
def takePeriod (teeth period : Nat) (c : WheelChannel) : WheelChannel :=
  { c with ring := joinRing c.ring period, noiseRun := 0,
           rpm := rpmOf teeth (joinRing c.ring period), state := .turning }

/-- A valid period in FAULT: the sixteenth in a row ends the fault (R7). -/
def clearPeriod (teeth period : Nat) (c : WheelChannel) : WheelChannel :=
  let ring := joinRing c.ring period
  if 16 ≤ c.clearRun + 1 then
    { c with ring := ring, state := .turning, clearRun := 0, noiseRun := 0, rpm := rpmOf teeth ring }
  else { c with ring := ring, clearRun := c.clearRun + 1, rpm := 0 }

/-- A noise edge (R6): the fourth in a row faults the channel; in FAULT the clear run starts again. -/
def noiseEdge (c : WheelChannel) : WheelChannel :=
  match c.state with
  | .fault => { c with clearRun := 0 }
  | .stopped | .turning =>
      if 4 ≤ c.noiseRun + 1 then
        { c with state := .fault, ring := [], rpm := 0, noiseRun := 0, clearRun := 0 }
      else { c with noiseRun := c.noiseRun + 1 }

/-- How a rising edge is taken (R3). -/
inductive EdgeKind
  | first | noise
  | valid (period : Nat)
deriving DecidableEq, Repr

/-- The kind of an edge at a channel (R3). -/
def edgeKind (limit : Nat) (now : Stamp) (c : WheelChannel) : EdgeKind :=
  match c.prevStamp with
  | none => .first
  | some p => if interval p now < limit then .noise else .valid (interval p now)

/-- A channel after a rising edge of a kind, before its timer (R3 to R7). -/
def afterEdge (teeth : Nat) (now : Stamp) (k : EdgeKind) (c : WheelChannel) : WheelChannel :=
  match k with
  | .first => { c with prevStamp := some now }
  | .noise => noiseEdge c
  | .valid period =>
      { (if c.state = .fault then clearPeriod teeth period c else takePeriod teeth period c) with
        prevStamp := some now }

/-- Whether an edge makes the truck speed be computed again (R15): a valid period in STOPPED or TURNING,
and an entry into or an exit from FAULT. -/
def computesSpeed (k : EdgeKind) (before after : WheelChannel) : Bool :=
  match k with
  | .valid _ => before.state != .fault || after.state != .fault
  | .noise => before.state != .fault && after.state == .fault
  | .first => false

/-- A channel has entered FAULT while the other was already in FAULT (R19). -/
def speedLost (before after other : WheelChannel) : Bool :=
  before.state != .fault && after.state == .fault && other.state == .fault

/-- A rising edge at a committed wheel channel (R3 to R7, R15 to R17, R19). -/
def wheelEdgeEvent (w : Wheel) (s : State) : State :=
  let before := s.capture.wheels.get w
  let now := s.capture.counter
  let k := edgeKind (minPeriod s) now before
  let after := afterEdge (teeth s) now k before
  let s := updWheel w (fun _ => { after with edgeTimer := startMs (stationaryTimeout s) }) s
  let s := if computesSpeed k before after then computeSpeed s else s
  if speedLost before after (s.capture.wheels.get (otherWheel w)) then latch .speedSenseLost s else s

/-- A rising edge at WSL or WSR: before commit it is ignored (R2). -/
def wheelEdgeInput (w : Wheel) (s : State) : State :=
  if s.profile.committed then wheelEdgeEvent w s else s

/-- A wheel channel whose edge timer has expired (R8). -/
def silentWheel (c : WheelChannel) : WheelChannel :=
  { c with state := .stopped, ring := [], rpm := 0, prevStamp := none, noiseRun := 0, clearRun := 0,
           edgeTimer := none }

/-- The expiry of a wheel channel's edge timer (R8, R15). -/
def wheelTimerEvent (w : Wheel) (s : State) : State := computeSpeed (updWheel w silentWheel s)

/-! ### The steering angle -/

/-- The angle a valid duty reads (R10); the middle band is truncated toward zero. -/
def angleReading (duty : Nat) : Int :=
  if duty < 100 then -450
  else if duty ≤ 900 then (((duty : Int) - 500) * 9).tdiv 8
  else 450

/-- Whether a completed period is valid (R10): its length lies within 1000..4000 µs and its duty within
50..950. -/
def periodValid (period highTime : Nat) : Bool :=
  1000 ≤ period && period ≤ 4000 && 50 ≤ highTime * 1000 / period && highTime * 1000 / period ≤ 950

/-- The duty after a completed period: computed within 1000..4000 µs, else kept (R10). -/
def dutyAfter (period highTime last : Nat) : Nat :=
  if 1000 ≤ period ∧ period ≤ 4000 then highTime * 1000 / period else last

/-- The state of the angle channel after a classification (R11). -/
def classify (valid : Bool) (reading : Int) (a : AngleChannel) : AngleChannel :=
  match a.state, valid with
  | .ok, true => { a with angle := reading, outRun := 0 }
  | .ok, false =>
      if 3 ≤ a.outRun + 1 then { a with state := .fault, angle := 0, outRun := 0, validRun := 0 }
      else { a with outRun := a.outRun + 1 }
  | .fault, true =>
      if 10 ≤ a.validRun + 1 then { a with state := .ok, angle := reading, validRun := 0 }
      else { a with validRun := a.validRun + 1 }
  | .fault, false => { a with validRun := 0 }

/-- A completed period taken (R9, R10, R11). -/
def completePeriod (rise fall now : Stamp) (a : AngleChannel) : AngleChannel :=
  let period := interval rise now
  let high := interval rise fall
  let duty := dutyAfter period high a.duty
  classify (periodValid period high) (angleReading duty)
    { a with period := period, highTime := high, duty := duty }

/-- A rising edge at ANG (R9). -/
def angleRise (now : Stamp) (a : AngleChannel) : AngleChannel :=
  let a' := match a.risingStamp, a.fallingStamp with
    | some r, some f => completePeriod r f now a
    | _, _ => a
  { a' with risingStamp := some now, fallingStamp := none, edgeTimer := startMs 20 }

/-- A falling edge at ANG (R9). -/
def angleFall (now : Stamp) (a : AngleChannel) : AngleChannel :=
  { a with
    fallingStamp := if a.risingStamp.isSome && a.fallingStamp.isNone then some now else a.fallingStamp
    edgeTimer := startMs 20 }

/-- The expiry of the angle channel's edge timer (R12). -/
def angleSilent (a : AngleChannel) : AngleChannel :=
  match a.state with
  | .ok => { a with state := .fault, angle := 0, risingStamp := none, fallingStamp := none, outRun := 0,
                    validRun := 0, edgeTimer := none }
  | .fault => { a with risingStamp := none, fallingStamp := none, validRun := 0, edgeTimer := none }

/-- A state with the angle channel changed. -/
def updAngle (f : AngleChannel → AngleChannel) (s : State) : State :=
  updCapture (fun c => { c with angle := f c.angle }) s

/-! ### The link gate -/

/-- The link channel after a gate expiry (R13, R14). -/
def gateChannel (l : LinkChannel) : LinkChannel :=
  let n := l.running
  if 100 ≤ n then
    { running := 0, lastCount := n, v := min 2800 (5 * n - 500), state := .ok, gateTimer := startMs 10 }
  else { running := 0, lastCount := n, v := l.v, state := .lost, gateTimer := startMs 10 }

/-- The result of a gate as it is handed to link protection (R13). -/
def gateResult (l : LinkChannel) : GateResult :=
  match l.state with
  | .ok => .good l.v
  | .lost => .senseLost

/-- The end of a link gate: the count is evaluated, and after commit the result is taken by link
protection (R13, R163). -/
def gateExpiry (s : State) : State :=
  let s := updCapture (fun c => { c with link := gateChannel c.link }) s
  if s.profile.committed then gateEvent (gateResult s.capture.link) s else s

end Sys2Proof.Machine
end

