-- ==== Sys2Proof/Machine/Authority.lean ====
section
/-! DEFINITION. The Authority Unit: the protocol (R46 to R55), the demand records and their lifetimes
(R57 to R60). -/

namespace Sys2Proof.Machine

/-- A state with the Authority Unit changed. -/
def updAuthority (f : AuthorityUnit → AuthorityUnit) (s : State) : State := s.withAuthority (f s.authority)

/-- The party on a port (R44); port I is no party. -/
def portParty : Port → Option Party
  | .i => none
  | .c => some .cab
  | .s => some .supervisor

/-- The record of a party that holds. -/
def heldBy (x : Party) : AuthRecord :=
  { state := .held, holder := some x, claimant := none, bidder := none, deadline := none }

/-- The vacant record. -/
def vacantRecord : AuthRecord := .reset

/-- The AUTHORITY notice of a change (R55). -/
def authorityNotice (cause : AuthCause) (r : AuthRecord) : Notice :=
  .authority cause r.state r.holder r.claimant r.bidder.isSome

/-- A change of the authority record (R55, R60): the record, the AUTHORITY notice, the event to the
Grade Hold Unit when the holder changes, and the event to Governor Control when the state changes
between VACANT and not VACANT. That the notice comes before those of the other blocks is the model's
choice (DESIGN CHOICE, assumption log 8). The manual leaves the order of the two events open (R99: "in either
order"); the model takes the Grade Hold Unit's first, and that fixes the mode seen of a BRAKE notice and the brake line
of the forced record of R87 (DESIGN CHOICE, assumption log 29). -/
def changeAuthority (new : AuthRecord) (cause : AuthCause) (s : State) : State :=
  let old := s.authority.record
  let s := offer (authorityNotice cause new) (updAuthority (fun u => { u with record := new }) s)
  let s := if new.holder = old.holder then s else holdAuthorityEvent s
  if (new.state == .vacant) = (old.state == .vacant) then s
  else authorityEvent (new.state != .vacant) s

/-- The authority record as every answer of the protocol carries it (R54). The bid is sent as a flag, 01H
when present, though R54 lists "present" first (DESIGN CHOICE, assumption log 36). -/
def recordBytes (r : AuthRecord) : List Byte :=
  byte1 r.state.code ++ byte1? (r.holder.map partyCode) ++ byte1? (r.claimant.map partyCode) ++
    byteFlag r.bidder.isSome ++ byte2 (leftMs r.deadline)

/-- What a request of the protocol comes to: a change with its qualifying result (R190: 00H GRANTED,
01H HANDOVER_STARTED, 02H BID_PLACED, 03H RELEASED_TO_BIDDER, 04H VACATED, 05H YIELDED, 06H
BID_WITHDRAWN), or an answer that changes nothing. -/
inductive Verdict
  | change (new : AuthRecord) (cause : AuthCause) (qualifier : Nat)
  | keep (answer : Answer)
deriving DecidableEq, Repr

/-- A verdict carried out and answered (R54). -/
def rule (v : Verdict) (s : State) : State × Reply :=
  match v with
  | .change new cause q =>
      let s' := changeAuthority new cause s
      (s', { answer := .ok, results := byte1 q ++ recordBytes s'.authority.record })
  | .keep a => (s, { answer := a, results := recordBytes s.authority.record })

/-- A CLAIM from the Cab (R47). -/
def claimCab (s : State) : Verdict :=
  let r := s.authority.record
  match r.state, r.holder with
  | .vacant, _ => .change (heldBy .cab) .claimCab 0
  | .held, some .supervisor =>
      .change { r with state := .handover, claimant := some .cab,
                       deadline := startMs (handoverWindow s) } .claimCab 1
  | .held, _ => .keep .already
  | .handover, _ => .keep .already

/-- A CLAIM from the Supervisor (R48). -/
def claimSupervisor (s : State) : Verdict :=
  let r := s.authority.record
  match r.state, r.holder with
  | .vacant, _ =>
      if s.capture.stationary then .change (heldBy .supervisor) .claimSupervisor 0 else .keep .moving
  | .held, some .cab =>
      if r.bidder.isSome then .keep .already
      else .change { r with bidder := some .supervisor } .claimSupervisor 2
  | .held, _ => .keep .already
  | .handover, _ => .keep .operatorTakeover

/-- A CLAIM; in CONFIG it is refused NOT_READY (R46). -/
def claimVerdict (p : Port) (s : State) : Verdict :=
  if s.governor.mode = .config then .keep .notReady
  else
    match portParty p with
    | some .cab => claimCab s
    | some .supervisor => claimSupervisor s
    | none => .keep .notPermitted

/-- A RELEASE from the Cab (R49). -/
def releaseCab (s : State) : Verdict :=
  let r := s.authority.record
  match r.state, r.holder with
  | .held, some .cab =>
      if r.bidder.isSome then
        if s.authority.demands.supervisor.freshness = .fresh then
          .change (heldBy .supervisor) .releaseCab 3
        else .keep .noFreshDemand
      else if s.capture.stationary then .change vacantRecord .releaseCab 4
      else .keep .moving
  | _, _ => .keep .notHolder

/-- A RELEASE from the Supervisor; in HANDOVER it is taken as a YIELD (R50). -/
def releaseSupervisor (s : State) : Verdict :=
  let r := s.authority.record
  match r.state, r.holder with
  | .held, some .supervisor =>
      if s.capture.stationary then .change vacantRecord .releaseSupervisor 4 else .keep .moving
  | .handover, _ => .change (heldBy .cab) .releaseSupervisor 5
  | _, _ => .keep .notHolder

/-- A RELEASE (R49, R50). -/
def releaseVerdict (p : Port) (s : State) : Verdict :=
  match portParty p with
  | some .cab => releaseCab s
  | some .supervisor => releaseSupervisor s
  | none => .keep .notPermitted

/-- A YIELD from the Supervisor (R51). -/
def yieldVerdict (s : State) : Verdict :=
  match s.authority.record.state with
  | .handover => .change (heldBy .cab) .yielded 5
  | .held => .keep .notHolder
  | .vacant => .keep .notHolder

/-- A WITHDRAW BID from the Supervisor (R53). -/
def withdrawBidVerdict (s : State) : Verdict :=
  let r := s.authority.record
  if r.bidder.isSome then .change { r with bidder := none } .releaseSupervisor 6 else .keep .noSuch

/-- A request of the protocol that carries no arguments (R46). -/
def protocolRequest (verdict : State → Verdict) (args : List Byte) (s : State) : State × Reply :=
  rule (if args.isEmpty then verdict s else .keep .badValue) s

/-- CLAIM at the Authority Unit: in CONFIG every CLAIM is refused NOT_READY (R46). -/
def claimOwner (p : Port) (args : List Byte) (s : State) : State × Reply :=
  if s.governor.mode = .config then rule (.keep .notReady) s
  else protocolRequest (claimVerdict p) args s

/-- The handover deadline runs out: the Cab becomes the holder, with a forced AUTHORITY notice (R52). -/
def deadlineExpiry (s : State) : State :=
  match s.authority.record.state with
  | .handover => changeAuthority (heldBy .cab) .deadline s
  | .held => updAuthority (fun u => { u with record := { u.record with deadline := none } }) s
  | .vacant => updAuthority (fun u => { u with record := { u.record with deadline := none } }) s

/-! ### Demands -/

/-- A demand record as its readers see it: direction, propel, retard, setpoint (R58, R64). -/
def demandBytes (d : Demand) : List Byte :=
  byte1 d.direction.code ++ byte2 d.propel ++ byte2 d.retard ++ byte2? d.setpoint

/-- The setpoint two argument bytes carry: FFFFH is absent, the rest is clamped to 700 (R58). -/
def setpointOf (raw : Nat) : Option Nat := if raw = 0xFFFF then none else some (min 700 raw)

/-- A demand stored: FRESH, its lifetime restarted, and the holder's change of freshness handed on (R58,
R60). -/
def storeDemand (x : Party) (dir : Direction) (propel retard setpoint : Nat) (s : State) : State :=
  let was := (s.authority.demands.get x).freshness
  let d : Demand :=
    { direction := dir, propel := min 1000 propel, retard := min 1000 retard,
      setpoint := setpointOf setpoint, freshness := .fresh, lifetime := startMs (demandLifetime s) }
  let s := updAuthority (fun u => { u with demands := u.demands.set x d }) s
  if was = .stale ∧ s.authority.record.holder = some x then holdAuthorityEvent s else s

/-- The answer to an accepted SUBMIT DEMAND (R58). -/
def submitReply (x : Party) (clamped : Bool) (s : State) : Reply :=
  let d := s.authority.demands.get x
  let r := s.authority.record
  { answer := .ok
    results := demandBytes d ++ byte2 (leftMs d.lifetime) ++ byte1 r.state.code ++
      byte1? (r.holder.map partyCode)
    clamped := clamped }

/-- SUBMIT DEMAND at the Authority Unit (R58). -/
def submitOwner (p : Port) (args : List Byte) (s : State) : State × Reply :=
  if s.governor.mode = .config then (s, refuse .notReady)
  else
    match args, portParty p with
    | [d, p1, p0, r1, r0, h1, h0], some x =>
        match directionOf? d.toNat with
        | some dir =>
            let propel := word16 p1 p0
            let retard := word16 r1 r0
            let setpoint := word16 h1 h0
            let clamped := 1000 < propel || 1000 < retard || (700 < setpoint && setpoint != 0xFFFF)
            let s' := storeDemand x dir propel retard setpoint s
            (s', submitReply x clamped s')
        | none => (s, refuse .badValue)
    | _, _ => (s, refuse .badValue)

/-- The role of a party at the moment (R59). -/
def roleOf (r : AuthRecord) (x : Party) : Role :=
  if r.holder = some x then .holder
  else if r.claimant = some x then .claimant
  else if r.bidder = some x then .bidder
  else .none

/-- A demand's lifetime runs out (R59, R60). The DEMAND_STALE notice comes before a BRAKE notice of the
Grade Hold Unit; the manual gives no order (DESIGN CHOICE, assumption log 8). -/
def demandExpiry (x : Party) (s : State) : State :=
  let d := s.authority.demands.get x
  let s := updAuthority (fun u => { u with
    demands := u.demands.set x { d with freshness := .stale, lifetime := none } }) s
  let s := offer (.demandStale x (roleOf s.authority.record x) d.direction d.retard) s
  if s.authority.record.holder = some x then holdAuthorityEvent s else s

end Sys2Proof.Machine
end

