-- ==== Sys2Proof/Machine/Reports.lean ====
section
/-! DEFINITION. The two reports the masters send: the Cab status (R133 to R135) and the drive report
(R148 to R150). -/

namespace Sys2Proof.Machine

/-! ### The Cab status -/

/-- A state with the Cab status record changed. -/
def updCab (f : CabStatus → CabStatus) (s : State) : State :=
  updSteering (fun u => { u with cab := f u.cab }) s

/-- The payload of an accepted REPORT CAB: at rest it is written and handed to the Overload Monitor;
on a moving truck it is held (R134). -/
def takePayload (payload : Nat) (s : State) : State :=
  if s.capture.stationary then payloadEvent payload (updCab (fun c => { c with payload := payload }) s)
  else s

/-- An accepted REPORT CAB (R134, steps 4 to 7): supply and brake, payload, freshness, STEER. -/
def storeCab (payload : Nat) (supply : Supply) (brake : ParkBrake) (s : State) : State :=
  evalSteer (updCab (fun c => { c with freshness := .fresh, lifetime := startMs 500 })
    (takePayload payload (updCab (fun c => { c with supply := supply, parkBrake := brake }) s)))

/-- The Cab status record as its readers see it (R134, R146). -/
def cabBytes (c : CabStatus) : List Byte :=
  byte2 c.payload ++ byte1 c.supply.code ++ byte1 c.parkBrake.code ++ byte1 c.freshness.code ++
    byte2 (leftMs c.lifetime)

/-- REPORT CAB at the Steering Monitor (R134). The PAYLOAD_HELD mark, 00H, stands before the record when
the payload was held (R190; assumption log 12). -/
def reportCabOwner (args : List Byte) (s : State) : State × Reply :=
  match args with
  | [w1, w0, supplyByte, brakeByte] =>
      match supplyOf? supplyByte.toNat, parkBrakeOf? brakeByte.toNat with
      | some supply, some brake =>
          let raw := word16 w1 w0
          let s' := storeCab (min 6000 raw) supply brake s
          (s', { answer := .ok
                 results := (if s.capture.stationary then [] else byte1 0) ++ cabBytes s'.steering.cab
                 clamped := decide (6000 < raw) })
      | _, _ => (s, refuse .badValue)
  | _ => (s, refuse .badValue)

/-- The Cab status lifetime runs out (R135). -/
def cabExpiry (s : State) : State :=
  let c := s.steering.cab
  evalSteer (offer (.cabStale c.supply c.parkBrake)
    (updCab (fun c => { c with freshness := .stale, lifetime := none }) s))

/-! ### The drive report -/

/-- A state with the drive report changed. -/
def updReport (f : DriveReport → DriveReport) (s : State) : State :=
  updOverload (fun u => { u with report := f u.report }) s

/-- The drive report as its readers see it (R149, R166). -/
def reportBytes (r : DriveReport) : List Byte :=
  byteFlag r.ready.left ++ byteFlag r.ready.right ++ byte2 r.current.left ++ byte2 r.current.right ++
    byte1 r.freshness.code ++ byte1 (leftMs r.lifetime)

/-- REPORT DRIVE at the Overload Monitor (R149). -/
def reportDriveOwner (args : List Byte) (s : State) : State × Reply :=
  match args with
  | [l, r, l1, l0, r1, r0] =>
      match readyOf? l.toNat, readyOf? r.toNat with
      | some readyL, some readyR =>
          let left := word16 l1 l0
          let right := word16 r1 r0
          let s' := updReport (fun _ =>
            { ready := ⟨readyL, readyR⟩, current := ⟨min 10000 left, min 10000 right⟩,
              freshness := .fresh, lifetime := startMs 100 }) s
          (s', { answer := .ok
                 results := reportBytes s'.overload.report
                 clamped := 10000 < left || 10000 < right })
      | _, _ => (s, refuse .badValue)
  | _ => (s, refuse .badValue)

/-- The drive report's lifetime runs out (R150). -/
def reportExpiry (s : State) : State :=
  let r := s.overload.report
  offer (.driveStale r.ready r.current)
    (updReport (fun r => { r with freshness := .stale, lifetime := none }) s)

end Sys2Proof.Machine
end

