-- ==== Sys2Proof/Machine/Trips.lean ====
section
/-! DEFINITION. CLEAR TRIPS at Governor Control (R174, R175). -/

namespace Sys2Proof.Machine

/-- The clear event of a cause's owner: an integrator for a thermal cause, a bank for a contactor
cause, none for the link causes and SPEED_SENSE_LOST (R175). -/
def ownerClear : TripCause → State → State
  | .motorLThermal, s => clearIntegrator .ml s
  | .motorRThermal, s => clearIntegrator .mr s
  | .grid1Thermal, s => clearIntegrator .g1 s
  | .grid2Thermal, s => clearIntegrator .g2 s
  | .grid1Contactor, s => clearBank .one s
  | .grid2Contactor, s => clearBank .two s
  | .linkOvervoltage, s => s
  | .linkSenseLost, s => s
  | .speedSenseLost, s => s

/-- The causes of the set whose clear condition holds (R174). -/
def clearable (s : State) : List TripCause := s.governor.trips.filter (clearHolds s)

/-- The causes of the set whose clear condition fails: they stay latched (R175). -/
def staying (s : State) : List TripCause := s.governor.trips.filter fun c => !clearHolds s c

/-- The mode a CLEAR TRIPS leaves, with the causes that stay (R169, R175). -/
def modeAfterClear (g : Governor) (left : List TripCause) : GovMode :=
  if g.mode = .inhibit ∧ hasClass .drive left = false then
    (if g.authorityHeld then .active else .ready)
  else g.mode

/-- One cause cleared: it leaves the set, its owner is handed the clear, and its TRIP notice follows,
carrying the count and the mode after the event (R172, R175). That the owner's LEVEL or BANK notice comes
before the TRIP notice is DEDUCED (assumption log 9). -/
def clearCause (count : Nat) (modeAfter : GovMode) (c : TripCause) (s : State) : State :=
  offer (.trip c .cleared count modeAfter)
    (ownerClear c (updGovernor (fun g => { g with trips := g.trips.filter (· != c) }) s))

/-- What follows once the causes that cleared have been dealt with: the TRIP contribution, the
first-cause record and the mode (R175). -/
def afterClears (modeAfter : GovMode) (s : State) : State :=
  let s := if hasClass .propel s.governor.trips then s else internalWithdraw 0 s
  let s := if s.governor.trips.isEmpty then updGovernor (fun g => { g with firstCause := none }) s else s
  if modeAfter = s.governor.mode then s else changeMode modeAfter .clear s

/-- The tests, then the clears, then what follows from them (R174, R175). The manual gives no order among
the causes of one CLEAR TRIPS, and says of a bank's contactor clear and its level change that either may be
first (R117); the model deals with them in the order of their codes, so a bank's thermal cause before its
contactor cause (DESIGN CHOICE, assumption log 32). -/
def clearTripsEvent (s : State) : State :=
  let left := staying s
  let modeAfter := modeAfterClear s.governor left
  afterClears modeAfter ((clearable s).foldl (fun s c => clearCause left.length modeAfter c s) s)

/-- The first-cause record on the wire: cause, mode, v, validity, pass; all ones when absent (R168,
R197). -/
def firstCauseBytes : Option FirstCause → List Byte
  | none => List.replicate 7 0xFF
  | some f =>
      byte1 f.cause.code ++ byte1 f.mode.code ++ byte2 f.v ++ byteFlag f.vValid ++ byte2 f.pass.toNat

/-- A list of causes, each with its class (R175, R176). -/
def causeBytes (cs : List TripCause) : List Byte :=
  (cs.map fun c => byte1 c.code ++ byte1 c.tripClass.code).flatten

/-- The answer to CLEAR TRIPS: the causes cleared, the causes remaining with their classes, the
first-cause record and the mode (R175), the causes in the order of their codes (assumption log 40). -/
def clearReply (answer : Answer) (cleared : List TripCause) (s : State) : Reply :=
  { answer := answer
    results := (cleared.map fun c => byte1 c.code).flatten ++ causeBytes s.governor.trips ++
      firstCauseBytes s.governor.firstCause ++ byte1 s.governor.mode.code }

/-- The answer code of a CLEAR TRIPS that found causes, by what is left (R175). -/
def clearAnswer (left : List TripCause) : Answer := if left.isEmpty then .ok else .partly

/-- CLEAR TRIPS at Governor Control (R174, R175). GRID is posted once, at the end of the event (R124). -/
def clearTripsOwner (args : List Byte) (s : State) : State × Reply :=
  if !args.isEmpty then (s, refuse .badValue)
  else if s.governor.trips.isEmpty then (s, clearReply .noneLatched [] s)
  else
    let s' := gridEvent clearTripsEvent s
    (s', clearReply (clearAnswer (staying s)) (clearable s) s')

end Sys2Proof.Machine
end

