-- ==== Sys2Proof/Machine/Commit.lean ====
section
/-! DEFINITION. The Profile Store's requests: PROFILE WRITE (R180), COMMIT PROFILE with its effects in
every block (R181 to R184), and READ TABLE of a profile section (R185). -/

namespace Sys2Proof.Machine

/-- A state with the Profile Store changed. -/
def updProfile (f : Profile → Profile) (s : State) : State := s.withProfile (f s.profile)

/-! ### PROFILE WRITE -/

/-- PROFILE WRITE at the Profile Store (R180). -/
def profileWriteOwner (args : List Byte) (s : State) : State × Reply :=
  if s.profile.committed then (s, refuse .locked)
  else
    match args with
    | [secByte, idxByte, b3, b2, b1, b0] =>
        match entrySpec? secByte.toNat idxByte.toNat with
        | none => (s, refuse .badValue)
        | some spec =>
            let stored := clampEntry spec b3 b2 b1 b0
            (updProfile (fun p => p.store secByte.toNat idxByte.toNat stored.1) s,
             { answer := .ok
               results := byte1 secByte.toNat ++ byte1 idxByte.toNat ++
                 entryBytes (some spec) stored.1
               clamped := stored.2 })
    | _ => (s, refuse .badValue)

/-! ### COMMIT PROFILE -/

/-- A wheel channel at the commit: its edge timer starts (R2). -/
def startWheel (ms : Nat) (c : WheelChannel) : WheelChannel := { c with edgeTimer := startMs ms }

/-- The Capture Unit at the commit (R2). -/
def commitCapture (s : State) : State :=
  updCapture (fun c => { c with
    wheels := ⟨startWheel (stationaryTimeout s) c.wheels.left,
               startWheel (stationaryTimeout s) c.wheels.right⟩ }) s

/-- The Grid Drive Unit at the commit: committed, the boundary timers, GRID posted at 0, and the OPEN
watch (R34, R109, R116, R124). Its mode seen is set by the change of mode (R170). -/
def commitGrid (s : State) : State :=
  let period := chopperPeriod s
  let s := updGrid (fun g => { g with committed := true, gridValue := 0 }) s
  let s := updBank .one (fun k => { k with boundary := startUs period }) s
  let s := updBank .two (fun k => { k with boundary := startUs (period / 2) }) s
  openWatch .two (openWatch .one (internalPost 1 0 s))

/-- The Effort Resolver at the commit: the resolution timer (R67). -/
def commitResolver (s : State) : State :=
  s.withResolver { s.resolver with timer := startMs 5 }

/-- The Steering Monitor at the commit: committed, the steering timer, STEER evaluated (R130, R136). -/
def commitSteering (s : State) : State :=
  evalSteer (updSteering (fun u => { u with committed := true, timer := startMs 20 }) s)

/-- An integrator at the commit: H is θ_init × τ, so θ reads θ_init (R151). -/
def initialHeat (s : State) (e : Element) (i : Integrator) : Integrator :=
  { i with heat := thetaInit s e * tau s e, theta := thetaInit s e }

/-- The Overload Monitor at the commit (R151). -/
def commitOverload (s : State) : State :=
  updOverload (fun u => { u with
    integrators :=
      { ml := initialHeat s .ml u.integrators.ml
        mr := initialHeat s .mr u.integrators.mr
        g1 := initialHeat s .g1 u.integrators.g1
        g2 := initialHeat s .g2 u.integrators.g2 }
    timer := startMs 100 }) s

/-- The Grade Hold Unit at the commit: the hold timer, the GRID event of 0, and the change of mode,
which releases the brake request line (R92, R101, R105). -/
def commitHold (s : State) : State :=
  holdModeEvent .ready (holdGridEvent 0 (updCtx (fun c => { c with timer := startMs 20 }) s))

/-- The effects of an accepted commit, in an order that raises the notices in the order of R183: MODE,
ENVELOPE RETARD_POWER, ENVELOPE SPEED, BRAKE. -/
def commitEvent (s : State) : State :=
  let s := updProfile (fun p => { p with committed := true }) s
  let s := setMode .ready .commit s
  let s := commitOverload (commitSteering (commitResolver (commitGrid (commitCapture s))))
  gridModeEvent .ready (commitHold s)

/-- COMMIT PROFILE at the Profile Store (R181, R183). -/
def commitOwner (args : List Byte) (s : State) : State × Reply :=
  if s.profile.committed then (s, refuse .locked)
  else if !args.isEmpty then (s, refuse .badValue)
  else
    match profileFailure s.profile with
    | some (sec, idx, check) =>
        (s, { answer := .profileInvalid, results := byte1 sec ++ byte1 idx ++ byte1 check.code })
    | none =>
        let s' := commitEvent s
        (s', { answer := .ok, results := byte1 s'.governor.mode.code })

/-! ### READ TABLE of a profile section -/

/-- READ TABLE of a profile section at the Profile Store (R185). -/
def readProfileTable (sec start count : Nat) (s : State) : Reply :=
  match sectionSpec? sec with
  | none => refuse .badValue
  | some specs =>
      if specs.length ≤ start then refuse .badValue
      else
        let n := tableCount start count specs.length
        { answer := .ok
          results := ((List.range n).map fun k =>
              entryBytes (entrySpec? sec (start + k)) (s.profile.entry sec (start + k))).flatten ++
            byteFlag s.profile.committed
          clamped := n != count }

/-- READ TABLE at its owner: selector FFH is the limit table, 00H to 0CH a profile section (R192). -/
def readTableOwner (args : List Byte) (s : State) : State × Reply :=
  match args with
  | [selector, start, count] =>
      if selector = 0xFF then (s, readLimitTable start.toNat count.toNat s)
      else (s, readProfileTable selector.toNat start.toNat count.toNat s)
  | _ => (s, refuse .badValue)

end Sys2Proof.Machine
end

