-- ==== Sys2Proof/Machine/Records.lean ====
section
/-! DEFINITION. READ RECORD: the fifteen records, each field by field in the order its owner's rule
lists them, a field of each wheel, bank or element once for each of them, in the widths of R197 (R18, R41,
R64, R89, R106, R128, R146, R166, R176, R192). Where the order or the width is not forced, the layout is
assumption log 12. -/

namespace Sys2Proof.Machine

/-- A signed value in four bytes, in two's complement (R197). -/
def byte4s (n : Int) : List Byte := byte4 (n % 4294967296).toNat

/-- A field given for each wheel, left before right (R197). -/
def wheelBytes (f : Wheel → List Byte) : List Byte := f .left ++ f .right

/-- A field given for each bank, 1 before 2 (R197). -/
def bankBytes (f : BankId → List Byte) : List Byte := f .one ++ f .two

/-- A field given for each element, in the order ML, MR, G1, G2 (R197). -/
def elementBytes (f : Element → List Byte) : List Byte := f .ml ++ f .mr ++ f .g1 ++ f .g2

/-- ENVELOPE (R41): each field's value, binding source and slot, all ones when OPEN. -/
def envelopeRecord (s : State) : List Byte :=
  (allFields.map fun f =>
    let b := s.limits.envelope.field f
    byte2? (b.map (·.value)) ++ byte1? (b.map (·.source.code)) ++ byte1? (b.map (·.slot))).flatten

/-- An effective demand with its origin and flags (R61, R64). -/
def effDemandBytes (d : EffDemand) : List Byte :=
  byte1 d.direction.code ++ byte2 d.propel ++ byte2 d.retard ++ byte2? d.setpoint ++
    byte1 d.origin.code ++ byteFlag d.stale ++ byteFlag d.handover ++ byteFlag d.parkBrake

/-- AUTHORITY (R64). Before the commit the handover window is the entry as written so far: R64 gives the
window from the profile, and the manual has the blocks read the profile from the commit on (DESIGN CHOICE,
assumption log 30). -/
def authorityRecord (s : State) : List Byte :=
  recordBytes s.authority.record ++ byte2 (handoverWindow s) ++ effDemandBytes (effectiveDemand none s)

/-- DEMAND of a party (R64). -/
def demandRecord (x : Party) (s : State) : List Byte :=
  let d := s.authority.demands.get x
  demandBytes d ++ byte1 d.freshness.code ++ byte2 (leftMs d.lifetime)

/-- The weight of a flag bit. -/
def bitIf (b : Bool) (weight : Nat) : Nat := if b then weight else 0

/-- A grant record in its 25 bytes (R197). -/
def grantBytes (g : Grant) : List Byte :=
  byte2 g.pass.toNat ++ byte1 g.mode.code ++ byte1 g.axle.code ++
    wheelBytes (fun w => byte2 (g.wheels.get w).torque) ++
    wheelBytes (fun w => byte2 (g.wheels.get w).cap) ++
    wheelBytes (fun w => byte2 (g.wheels.get w).capability) ++
    wheelBytes (fun w => byte2 (g.wheels.get w).speedUsed) ++
    wheelBytes (fun w => byte1 (g.wheels.get w).binding.code) ++
    wheelBytes (fun w => byte1? ((g.wheels.get w).bindingSource.map Source.code)) ++
    byte1 (bitIf g.demandStale 1 + bitIf g.handover 2 + bitIf g.holdEngaged 4 + bitIf g.brakeLine 8 +
      bitIf g.directionHeld 16 + bitIf g.forced 32)

/-- GRANT (R89): the last published record, then the record before it. -/
def grantRecord (s : State) : List Byte := grantBytes s.resolver.last ++ grantBytes s.resolver.previous

/-- WHEELS (R18): each field of the channels left before right. -/
def wheelsRecord (s : State) : List Byte :=
  let c := s.capture
  wheelBytes (fun w => byte1 (c.wheels.get w).state.code) ++
    wheelBytes (fun w => byte2 (c.wheels.get w).rpm) ++
    wheelBytes (fun w => byte1 (c.wheels.get w).ring.length) ++
    wheelBytes (fun w => byte1 (c.wheels.get w).noiseRun) ++
    wheelBytes (fun w => byte1 (c.wheels.get w).clearRun) ++
    byte2 c.v ++ byteFlag c.vValid ++ byteFlag c.stationary ++
    wheelBytes (fun w => byte2 (c.lastPair.get w))

/-- The angle channel's fields (R18). -/
def angleBytes (a : AngleChannel) : List Byte :=
  byte1 a.state.code ++ byte4 a.period ++ byte4 a.highTime ++ byte2 a.duty ++ byte2s a.angle

/-- The slip records, each field left before right (R146). -/
def slipBytes (r : PerWheel SlipRecord) : List Byte :=
  wheelBytes (fun w => byte1 (r.get w).state.code) ++
    wheelBytes (fun w => byte1? ((r.get w).modeAt.map DriveMode.code)) ++
    wheelBytes (fun w => byte2? (r.get w).cap) ++
    wheelBytes (fun w => byte2 (r.get w).expected) ++
    wheelBytes (fun w => byte4s (r.get w).deviation)

/-- The Steering Monitor's part of STEERING (R146). -/
def steeringPart (u : SteeringUnit) : List Byte :=
  byte2s u.angleUsed ++ byte1 u.angleStateUsed.code ++ byte2 u.ratio ++ byte1 u.inner.code ++
    wheelBytes (fun w => byte2 (u.shares.get w)) ++ byte2? u.steerValue ++ cabBytes u.cab ++
    byte1 (effectiveSupply u.cab).code ++ slipBytes u.slips ++ byte2 u.lastGrant.pass.toNat

/-- STEERING (R18, R146). The rules do not say which owner's part is sent first; the model sends the parts
in the order in which R192 names the owners, the Steering Monitor's and then the angle channel's (DESIGN
CHOICE, assumption log 34). -/
def steeringRecord (s : State) : List Byte := steeringPart s.steering ++ angleBytes s.capture.angle

/-- The last gate: 00H good with its V, 01H sense-lost with V all ones. R163 gives the values "good with V, or
sense-lost" and R197 no layout for them (DESIGN CHOICE, assumption log 41). -/
def gateBytes : GateResult → List Byte
  | .good v => byte1 0 ++ byte2 v
  | .senseLost => byte1 1 ++ byte2? none

/-- LINK (R18, R166). R18 and R166 list the two owners' parts in opposite orders; the model sends them in
the order in which R192 names the owners, the Overload Monitor's and then the link channel's (DESIGN CHOICE,
assumption log 34). The dump is sent as a flag, on 01H, though R163 lists "on" first (DESIGN CHOICE,
assumption log 36). -/
def linkRecord (s : State) : List Byte :=
  let k := s.overload.link
  let l := s.capture.link
  byteFlag k.dump ++ byte1 k.overRun ++ byte1 k.lostRun ++ gateBytes k.lastGate ++ byte2 l.v ++
    byte1 l.state.code ++ byte2 l.lastCount

/-- BANKS (R128): each field of the banks 1 before 2. The command, the feedback and dump on are sent as flags,
01H when set, present or on, though R108 and R109 list these values first (DESIGN CHOICE, assumption
log 36). -/
def banksRecord (s : State) : List Byte :=
  let g := s.grid
  let k := g.banks.get
  bankBytes (fun b => byte1 (k b).contactor.code) ++
    bankBytes (fun b => byte1? ((k b).failure.map FailCause.code)) ++
    bankBytes (fun b => byteFlag (k b).command) ++ bankBytes (fun b => byteFlag (k b).feedback) ++
    bankBytes (fun b => byte1 (leftMs (k b).handshake)) ++
    bankBytes (fun b => byteFlag (k b).openPending) ++
    bankBytes (fun b => byte2 (k b).dutyPending) ++ bankBytes (fun b => byte2 (k b).dutyActive) ++
    bankBytes (fun b => byteFlag (k b).enableRequested) ++
    bankBytes (fun b => byteFlag (k b).enableActive) ++ bankBytes (fun b => byteFlag (k b).dump) ++
    bankBytes (fun b => byte1 (k b).levelSeen.code) ++ bankBytes (fun b => byte2 (k b).derateSeen) ++
    bankBytes (fun b => byte2 (k b).avail) ++ bankBytes (fun b => byte2 (k b).share) ++
    byteFlag g.dumpOn ++ byte2 g.gridValue ++ byte2 g.lastPass.toNat ++ byte1 g.lastMode.code ++
    byte2 g.pReq ++ byte2 g.pDis ++ byte2 g.vUsed

/-- THERMAL (R166): each field of the integrators in the order ML, MR, G1, G2, then the drive report. -/
def thermalRecord (s : State) : List Byte :=
  let i := s.overload.integrators.get
  elementBytes (fun e => byte4 (i e).heat) ++ elementBytes (fun e => byte2 (i e).theta) ++
    elementBytes (fun e => byte2 (i e).lastLoad) ++ elementBytes (fun e => byte1 (i e).level.code) ++
    elementBytes (fun e => byte4 (leftMs (i e).dwell)) ++ elementBytes (fun e => byte2 (i e).derate) ++
    reportBytes s.overload.report

/-- PAYLOAD (R166). -/
def payloadRecord (s : State) : List Byte :=
  let p := s.overload.payload
  byte2 p.payload ++ byte2 p.ratio ++ byte1 p.level.code ++ byte2? p.cap

/-- HOLD (R106). -/
def holdRecord (s : State) : List Byte :=
  let c := s.hold.ctx
  byte2? c.demandSource ++ byte2? c.capSource ++ byte2? c.staleSource ++
    byte1? (c.staleOwner.map partyCode) ++ byte2? c.setpoint ++ byte4 c.integral ++ byte2 c.bHold ++
    byte2s c.lastError ++ byteFlag c.windupHeld ++ byte2 c.lastGrant.pass.toNat

/-- The whole ms left of a timer, absent while it is stopped: R106 gives each timer of BRAKE as "stopped, or its
remaining time in ms", and no rule gives a stopped one its bytes (DESIGN CHOICE, assumption log 39). -/
def leftMs? (t : Timer) : Option Nat := t.map (· / 1000)

/-- BRAKE (R106): the line, the reasons as in the BRAKE notice (R197), the timers, grid and mode seen. A stopped
timer is sent as an absent value, all ones (DESIGN CHOICE, assumption log 39). -/
def brakeRecord (s : State) : List Byte :=
  let b := s.hold.brake
  byteFlag b.asserted ++ byte1 (bitIf b.overspeed 1 + bitIf b.noRetard 2) ++
    byte2? (leftMs? b.overspeedTimer) ++ byte1? (leftMs? b.noRetardTimer) ++ byte2 b.gridSeen ++
    byte1 s.hold.ctx.modeSeen.code

/-- TRIPS (R176): the set in the order of the cause codes (assumption log 40), the first-cause record, and
whether each cause's clear condition holds. -/
def tripsRecord (s : State) : List Byte :=
  causeBytes s.governor.trips ++ firstCauseBytes s.governor.firstCause ++
    (s.governor.trips.map fun c => byteFlag (clearHolds s c)).flatten

/-- MODE (R176). -/
def modeRecord (s : State) : List Byte :=
  let g := s.governor
  byte1 g.mode.code ++ byte1? (g.previous.map GovMode.code) ++ byteFlag g.authorityHeld ++
    byteFlag s.profile.committed ++ byte1 g.resetCause.code ++ byte1 (strapCode s.ports.strap)

/-- NOTICE STATUS of the asking port (R192). The notice line is sent as a flag, 01H when active, though R187
lists "active" first (DESIGN CHOICE, assumption log 36). -/
def noticeRecord (p : Port) (s : State) : List Byte :=
  let r := s.ports.recs.get p
  byte1 r.queue.length ++ byte1 r.threshold ++ byte2 r.mask.toNat ++ byteFlag r.overflow ++
    byteFlag r.lineActive

/-- The contents of the record a code names, for the codes that take no second argument (R192). -/
def recordOf? (p : Port) (code : Nat) (s : State) : Option (List Byte) :=
  match code with
  | 0x00 => some (envelopeRecord s)
  | 0x01 => some (authorityRecord s)
  | 0x03 => some (grantRecord s)
  | 0x04 => some (wheelsRecord s)
  | 0x05 => some (steeringRecord s)
  | 0x06 => some (linkRecord s)
  | 0x07 => some (banksRecord s)
  | 0x08 => some (thermalRecord s)
  | 0x09 => some (payloadRecord s)
  | 0x0A => some (holdRecord s)
  | 0x0B => some (brakeRecord s)
  | 0x0C => some (tripsRecord s)
  | 0x0D => some (modeRecord s)
  | 0x0E => some (noticeRecord p s)
  | _ => none

/-- The party a code names, if it names one (R192). -/
def partyOf? : Nat → Option Party
  | 0 => some .cab
  | 1 => some .supervisor
  | _ => none

/-- What a READ RECORD asks for: the record's contents, or nothing where it is refused (R192). -/
def recordAsked? (p : Port) (args : List Byte) (s : State) : Option (List Byte) :=
  match args with
  | [code] => recordOf? p code.toNat s
  | [code, party] =>
      if code = 0x02 then (partyOf? party.toNat).map fun x => demandRecord x s else none
  | _ => none

/-- READ RECORD at the record's owner (R192). -/
def readRecordOwner (p : Port) (args : List Byte) (s : State) : State × Reply :=
  match recordAsked? p args s with
  | some contents => (s, { answer := .ok, results := contents })
  | none => (s, refuse .badValue)

end Sys2Proof.Machine
end

