-- ==== Sys2Proof/Machine/Ports.lean ====
section
/-! DEFINITION. How a transaction's bytes reach the queue of commands (R188), and the Master Port Unit's
own answers: NOP and TRUNCATED (R188), UNKNOWN_REQUEST (R189), TAKE NOTICES (R194), SET NOTICE MASK and SET
NOTICE THRESHOLD (R195). -/

namespace Sys2Proof.Machine

/-- A transaction ends at a port: the command its bytes spell joins the commands that wait, as the last
(R188, R196; assumption log 7). -/
def clockIn (p : Port) (early : Bool) (bytes : List Byte) (s : State) : State :=
  s.withPending (s.pending ++ [decodeFrame p early bytes])

/-- The answer to a NOP: the last response again, its status byte formed afresh with REPEAT (R188). -/
def repeatResponse (p : Port) (s : State) : State :=
  updPort p (fun r => { r with response := { r.response with status := statusByte s p true false } }) s

/-- The answer to a short transaction: TRUNCATED with code echo FFH (R188, R196). -/
def answerTruncated (p : Port) (s : State) : State := respond p 0xFF (refuse .truncated) s

/-- The answer to a code outside the request table; the strap is checked before the code (R189). -/
def answerUnknown (p : Port) (code : Byte) (s : State) : State :=
  respond p code (refuse (if unfitted s p then .notFitted else .unknownRequest)) s

/-- A port record with its oldest k entries gone; overflow is cleared when the queue is then empty, and
the notice line is evaluated again (R194, R195). -/
def takeOldest (k : Nat) (strap : Strap) (p : Port) (r : PortRecord) : PortRecord :=
  let rest := r.queue.drop k
  evalNoticeLine strap p { r with queue := rest, overflow := r.overflow && !rest.isEmpty }

/-- The entries a TAKE NOTICES returns: those removed, or one of kind NONE (R194). -/
def takenBytes (taken : List Notice) : List Byte :=
  if taken.isEmpty then emptyEntry else (taken.map Notice.wire).flatten

/-- TAKE NOTICES at the Master Port Unit (R194). -/
def takeNoticesOwner (p : Port) (args : List Byte) (s : State) : State × Reply :=
  match args with
  | [c] =>
      let count := clampNat 1 4 c.toNat
      let taken := (s.ports.recs.get p).queue.take count
      let s' := updPort p (takeOldest count s.ports.strap p) s
      (s', { answer := .ok
             results := byte1 taken.length ++ byte1 (s'.ports.recs.get p).queue.length ++
               takenBytes taken
             clamped := count != c.toNat })
  | _ => (s, refuse .badValue)

/-- The answer to both settings: the mask and the threshold as they then stand (R195). -/
def settingReply (p : Port) (s : State) : Reply :=
  let r := s.ports.recs.get p
  { answer := .ok, results := byte2 r.mask.toNat ++ byte1 r.threshold }

/-- SET NOTICE MASK at the Master Port Unit (R195). -/
def setMaskOwner (p : Port) (args : List Byte) (s : State) : State × Reply :=
  match args with
  | [hi, lo] =>
      if word16 hi lo < 4096 then
        let s' := updPort p (fun r => { r with mask := BitVec.ofNat 12 (word16 hi lo) }) s
        (s', settingReply p s')
      else (s, refuse .badValue)
  | _ => (s, refuse .badValue)

/-- SET NOTICE THRESHOLD at the Master Port Unit (R195). R195 gives a refusal for the value and none for an
argument length other than 1; the model refuses that BAD_VALUE as well (DESIGN CHOICE, assumption log 38). -/
def setThresholdOwner (p : Port) (args : List Byte) (s : State) : State × Reply :=
  match args with
  | [t] =>
      if 1 ≤ t.toNat ∧ t.toNat ≤ 16 then
        let s' := updPort p (fun r => evalNoticeLine s.ports.strap p { r with threshold := t.toNat }) s
        (s', settingReply p s')
      else (s, refuse .badValue)
  | _ => (s, refuse .badValue)

end Sys2Proof.Machine
end

