-- ==== Sys2Proof/Machine/Reset.lean ====
section
/-! DEFINITION. The reset sources (R177, R178, R187): POWER_ON, RESET_LINE and RESET_END. -/

namespace Sys2Proof.Machine

/-- A reset begun: every block at its reset values, the cause left in Governor Control (R177, R178). The
strap keeps its last sample until the reset ends (R187). The commands waiting and the count of free
values are the model's own and stay. -/
def beginReset (cause : ResetCause) (s : State) : State :=
  { State.reset with
    pending := s.pending
    resetting := some cause
    governor := .reset cause
    ports := { recs := ⟨.reset, .reset, .reset⟩, strap := s.ports.strap }
    draws := s.draws }

/-- The cause a reset line leaves: a power-on reset during which RSTN is also held low ends with cause
POWER_ON (R178). -/
def lineCause (s : State) : ResetCause :=
  if s.resetting = some .powerOn then .powerOn else .resetLine

/-- The reset line held low for a pulse long enough (R178). -/
def lineReset (s : State) : State := beginReset (lineCause s) s

/-- A pulse shorter than the minimum: it resets the part, or it does not, as an open value says (R178;
assumption log 4). -/
def shortPulse (s : State) : State :=
  let s' := s.withDraws (s.draws + 1)
  if Config.shortPulseResets s.draws then lineReset s' else s'

/-- The end of a reset: the strap is sampled, and each bank takes the level at its feedback input
(R108, R178, R187). -/
def endReset (sfit : Strap) (kfb1 kfb2 : Bool) (s : State) : State :=
  let s := s.withResetting none
  let s := s.withPorts { s.ports with strap := sfit }
  updGrid (fun g => { g with
    banks := ⟨{ g.banks.one with feedback := kfb1 }, { g.banks.two with feedback := kfb2 }⟩ }) s

/-- POWER_ON (R178). -/
def execPowerOn (s : State) : Result := .next (beginReset .powerOn s)

/-- RESET_LINE (R178). -/
def execResetLine (pulse : Pulse) (s : State) : Result :=
  .next (match pulse with
    | .full => lineReset s
    | .short => shortPulse s)

/-- RESET_END (R178). With no reset in progress there is none to end, and nothing happens. -/
def execResetEnd (sfit : Strap) (kfb1 kfb2 : Bool) (s : State) : Result :=
  .next (if s.resetting.isSome then endReset sfit kfb1 kfb2 s else s)

end Sys2Proof.Machine
end

