-- ==== Sys2Proof/Machine/Inputs.lean ====
section
/-! DEFINITION. The meanings of the edges at the field inputs and of the Capture Unit's timers. -/

namespace Sys2Proof.Machine

/-- WHEEL_EDGE (R3). -/
def execWheelEdge (w : Wheel) (s : State) : Result := whenLive (wheelEdgeInput w) s

/-- WHEEL_EDGE_TIMER_EXPIRY (R8). -/
def execWheelEdgeTimerExpiry (w : Wheel) (s : State) : Result :=
  whenRunning (fun s => (s.capture.wheels.get w).edgeTimer) (wheelTimerEvent w) s

/-- ANGLE_RISING_EDGE (R9). -/
def execAngleRisingEdge (s : State) : Result :=
  whenLive (fun s => updAngle (angleRise s.capture.counter) s) s

/-- ANGLE_FALLING_EDGE (R9). -/
def execAngleFallingEdge (s : State) : Result :=
  whenLive (fun s => updAngle (angleFall s.capture.counter) s) s

/-- ANGLE_EDGE_TIMER_EXPIRY (R12). -/
def execAngleEdgeTimerExpiry (s : State) : Result :=
  whenRunning (fun s => s.capture.angle.edgeTimer) (updAngle angleSilent) s

/-- LVF_EDGE: the running count increases by 1 (R13). -/
def execLvfEdge (s : State) : Result :=
  whenLive (updCapture fun c => { c with link := { c.link with running := c.link.running + 1 } }) s

/-- LINK_GATE_EXPIRY (R13). -/
def execLinkGateExpiry (s : State) : Result :=
  whenRunning (fun s => s.capture.link.gateTimer) gateExpiry s

/-- FEEDBACK_RISES (R112). -/
def execFeedbackRises (b : BankId) (s : State) : Result := whenLive (gridEvent (feedbackRise b)) s

/-- FEEDBACK_FALLS (R113). -/
def execFeedbackFalls (b : BankId) (s : State) : Result := whenLive (gridEvent (feedbackFall b)) s

end Sys2Proof.Machine
end

