-- ==== Sys2Proof/Machine/Transactions.lean ====
section
/-! DEFINITION. The meanings of the transactions at the three ports (R188, R189, R191). -/

namespace Sys2Proof.Machine

/-- NOP (R188): taken on every port, fitted or not, with any arguments. -/
def execNop (p : Port) (f : Frame) (s : State) : Result :=
  transaction p f.early (frameBytes f) (repeatResponse p) s

/-- TRUNCATED (R188): decided before the strap. -/
def execTruncated (p : Port) (bytes : List Byte) (early : Bool) (s : State) : Result :=
  if isTruncated bytes then transaction p early bytes.length (answerTruncated p) s
  else .refused .illFormed

/-- UNKNOWN_REQUEST (R189). -/
def execUnknownRequest (p : Port) (code : Byte) (f : Frame) (s : State) : Result :=
  if isKnownCode code then .refused .illFormed
  else transaction p f.early (frameBytes f) (answerUnknown p code) s

/-- READ_RECORD (R192). -/
def execReadRecord (p : Port) (f : Frame) (s : State) : Result :=
  serve .readRecord p f (readRecordOwner p f.args) s

/-- READ_TABLE (R41, R185). -/
def execReadTable (p : Port) (f : Frame) (s : State) : Result :=
  serve .readTable p f (readTableOwner f.args) s

/-- TAKE_NOTICES (R194). -/
def execTakeNotices (p : Port) (f : Frame) (s : State) : Result :=
  serve .takeNotices p f (takeNoticesOwner p f.args) s

/-- SET_NOTICE_MASK (R195). -/
def execSetNoticeMask (p : Port) (f : Frame) (s : State) : Result :=
  serve .setNoticeMask p f (setMaskOwner p f.args) s

/-- SET_NOTICE_THRESHOLD (R195). -/
def execSetNoticeThreshold (p : Port) (f : Frame) (s : State) : Result :=
  serve .setNoticeThreshold p f (setThresholdOwner p f.args) s

/-- POST_LIMIT (R24). -/
def execPostLimit (p : Port) (f : Frame) (s : State) : Result :=
  serve .postLimit p f (postOwner p f.args) s

/-- WITHDRAW_LIMIT (R29). -/
def execWithdrawLimit (p : Port) (f : Frame) (s : State) : Result :=
  serve .withdrawLimit p f (withdrawOwner p f.args) s

/-- CLAIM (R47, R48). -/
def execClaim (p : Port) (f : Frame) (s : State) : Result :=
  serve .claim p f (claimOwner p f.args) s

/-- RELEASE (R49, R50). -/
def execRelease (p : Port) (f : Frame) (s : State) : Result :=
  serve .release p f (protocolRequest (releaseVerdict p) f.args) s

/-- YIELD (R51). -/
def execYield (p : Port) (f : Frame) (s : State) : Result :=
  serve .yieldAuthority p f (protocolRequest yieldVerdict f.args) s

/-- WITHDRAW_BID (R53). -/
def execWithdrawBid (p : Port) (f : Frame) (s : State) : Result :=
  serve .withdrawBid p f (protocolRequest withdrawBidVerdict f.args) s

/-- SUBMIT_DEMAND (R58). -/
def execSubmitDemand (p : Port) (f : Frame) (s : State) : Result :=
  serve .submitDemand p f (submitOwner p f.args) s

/-- REPORT_CAB (R134). -/
def execReportCab (p : Port) (f : Frame) (s : State) : Result :=
  serve .reportCab p f (reportCabOwner f.args) s

/-- REPORT_DRIVE (R149). -/
def execReportDrive (p : Port) (f : Frame) (s : State) : Result :=
  serve .reportDrive p f (reportDriveOwner f.args) s

/-- CLEAR_TRIPS (R174). -/
def execClearTrips (p : Port) (f : Frame) (s : State) : Result :=
  serve .clearTrips p f (clearTripsOwner f.args) s

/-- PROFILE_WRITE (R180). -/
def execProfileWrite (p : Port) (f : Frame) (s : State) : Result :=
  serve .profileWrite p f (profileWriteOwner f.args) s

/-- COMMIT_PROFILE (R181). -/
def execCommitProfile (p : Port) (f : Frame) (s : State) : Result :=
  serve .commitProfile p f (commitOwner f.args) s

end Sys2Proof.Machine
end

