-- ==== Sys2Proof/Machine/Expiries.lean ====
section
/-! DEFINITION. The meanings of the expiries of the blocks' timers. -/

namespace Sys2Proof.Machine

/-- The hold of the master contribution in a slot, as a timer (R30). -/
def limitTimer (slot : Nat) (s : State) : Timer :=
  (slotAt s.limits slot).bind fun c => c.hold.map (·.left)

/-- HOLD_TIMER_EXPIRY_OF_LIMIT (R31). -/
def execHoldTimerExpiryOfLimit (slot : Nat) (s : State) : Result :=
  whenRunning (limitTimer slot) (limitExpiry slot) s

/-- HANDOVER_DEADLINE_EXPIRY (R52). -/
def execHandoverDeadlineExpiry (s : State) : Result :=
  whenRunning (fun s => s.authority.record.deadline) deadlineExpiry s

/-- DEMAND_LIFETIME_EXPIRY (R59). -/
def execDemandLifetimeExpiry (x : Party) (s : State) : Result :=
  whenRunning (fun s => (s.authority.demands.get x).lifetime) (demandExpiry x) s

/-- RESOLUTION_TIMER_EXPIRY (R67). -/
def execResolutionTimerExpiry (s : State) : Result :=
  whenRunning (fun s => s.resolver.timer) resolutionExpiry s

/-- HOLD_TIMER_EXPIRY (R92, R97). -/
def execHoldTimerExpiry (s : State) : Result :=
  whenRunning (fun s => s.hold.ctx.timer) holdUpdate s

/-- OVERSPEED_TIMER_EXPIRY (R102). -/
def execOverspeedTimerExpiry (s : State) : Result :=
  whenRunning (fun s => s.hold.brake.overspeedTimer) overspeedExpiry s

/-- NO_RETARD_TIMER_EXPIRY (R104). -/
def execNoRetardTimerExpiry (s : State) : Result :=
  whenRunning (fun s => s.hold.brake.noRetardTimer) noRetardExpiry s

/-- HANDSHAKE_TIMER_EXPIRY (R112, R115, R116). -/
def execHandshakeTimerExpiry (b : BankId) (s : State) : Result :=
  whenRunning (fun s => (bankOf s b).handshake) (gridEvent (handshakeExpiry b)) s

/-- PERIOD_BOUNDARY (R120). -/
def execPeriodBoundary (b : BankId) (s : State) : Result :=
  whenRunning (fun s => (bankOf s b).boundary) (gridEvent (boundaryEvent b)) s

/-- CHOPPER_ON_TIME_END (R121). -/
def execChopperOnTimeEnd (b : BankId) (s : State) : Result :=
  whenRunning (fun s => (bankOf s b).onTime) (onTimeEnd b) s

/-- STEERING_TIMER_EXPIRY (R130). -/
def execSteeringTimerExpiry (s : State) : Result :=
  whenRunning (fun s => s.steering.timer) steeringRun s

/-- CAB_STATUS_LIFETIME_EXPIRY (R135). -/
def execCabStatusLifetimeExpiry (s : State) : Result :=
  whenRunning (fun s => s.steering.cab.lifetime) cabExpiry s

/-- DRIVE_REPORT_LIFETIME_EXPIRY (R150). -/
def execDriveReportLifetimeExpiry (s : State) : Result :=
  whenRunning (fun s => s.overload.report.lifetime) reportExpiry s

/-- OVERLOAD_TIMER_EXPIRY (R153). -/
def execOverloadTimerExpiry (s : State) : Result :=
  whenRunning (fun s => s.overload.timer) (gridEvent overloadUpdate) s

/-- DWELL_TIMER_EXPIRY (R155). -/
def execDwellTimerExpiry (e : Element) (s : State) : Result :=
  whenRunning (fun s => (integratorOf s e).dwell) (gridEvent (dwellExpiry e)) s

end Sys2Proof.Machine
end

