-- ==== Sys2Proof/Machine/Clock.lean ====
section
/-! DEFINITION. The passing of time, which is what the machine does while no command waits (DESIGN
CHOICE, assumption log 2): one microsecond passes, every running timer has a microsecond less, and a
timer that has run out expires by its own command. -/

namespace Sys2Proof.Machine

/-! ### One microsecond -/

/-- The Capture Unit a microsecond later: the counter increases by 1 (R1), its timers run down. -/
def Capture.tick (c : Capture) : Capture :=
  { c with
    counter := c.counter + 1
    wheels := ⟨{ c.wheels.left with edgeTimer := tickTimer c.wheels.left.edgeTimer },
               { c.wheels.right with edgeTimer := tickTimer c.wheels.right.edgeTimer }⟩
    angle := { c.angle with edgeTimer := tickTimer c.angle.edgeTimer }
    link := { c.link with gateTimer := tickTimer c.link.gateTimer } }

/-- A contribution a microsecond later: its hold, if it has one, runs down (R30). -/
def Contribution.tick (c : Contribution) : Contribution :=
  { c with hold := c.hold.map fun h => { h with left := h.left - 1 } }

/-- The Envelope Unit a microsecond later. -/
def LimitUnit.tick (u : LimitUnit) : LimitUnit :=
  { u with slots := u.slots.map fun c => c.map Contribution.tick }

/-- A demand record a microsecond later. -/
def Demand.tick (d : Demand) : Demand := { d with lifetime := tickTimer d.lifetime }

/-- The Authority Unit a microsecond later. -/
def AuthorityUnit.tick (u : AuthorityUnit) : AuthorityUnit :=
  { record := { u.record with deadline := tickTimer u.record.deadline }
    demands := ⟨u.demands.cab.tick, u.demands.supervisor.tick⟩ }

/-- The Effort Resolver a microsecond later. -/
def Resolver.tick (r : Resolver) : Resolver := { r with timer := tickTimer r.timer }

/-- The Grade Hold Unit a microsecond later. -/
def HoldUnit.tick (h : HoldUnit) : HoldUnit :=
  { ctx := { h.ctx with timer := tickTimer h.ctx.timer }
    brake := { h.brake with overspeedTimer := tickTimer h.brake.overspeedTimer
                            noRetardTimer := tickTimer h.brake.noRetardTimer } }

/-- A bank a microsecond later. -/
def Bank.tick (k : Bank) : Bank :=
  { k with handshake := tickTimer k.handshake, boundary := tickTimer k.boundary,
           onTime := tickTimer k.onTime }

/-- The Grid Drive Unit a microsecond later. -/
def GridUnit.tick (g : GridUnit) : GridUnit := { g with banks := ⟨g.banks.one.tick, g.banks.two.tick⟩ }

/-- The Steering Monitor a microsecond later. -/
def SteeringUnit.tick (u : SteeringUnit) : SteeringUnit :=
  { u with timer := tickTimer u.timer, cab := { u.cab with lifetime := tickTimer u.cab.lifetime } }

/-- An integrator a microsecond later. -/
def Integrator.tick (i : Integrator) : Integrator := { i with dwell := tickTimer i.dwell }

/-- The Overload Monitor a microsecond later. -/
def OverloadUnit.tick (u : OverloadUnit) : OverloadUnit :=
  { u with
    report := { u.report with lifetime := tickTimer u.report.lifetime }
    integrators := ⟨u.integrators.ml.tick, u.integrators.mr.tick, u.integrators.g1.tick,
                    u.integrators.g2.tick⟩
    timer := tickTimer u.timer }

/-- One microsecond passes: the counter and the timers move, and nothing else does. -/
def passTime (s : State) : State :=
  { s with
    capture := s.capture.tick
    limits := s.limits.tick
    authority := s.authority.tick
    resolver := s.resolver.tick
    hold := s.hold.tick
    grid := s.grid.tick
    steering := s.steering.tick
    overload := s.overload.tick }

/-! ### The timers that have run out -/

/-- Every timer of the governor but the master holds, with the command of its expiry. -/
def timers (s : State) : List (Timer × Instr) :=
  [(s.capture.wheels.left.edgeTimer, .wheelEdgeTimerExpiry .left),
   (s.capture.wheels.right.edgeTimer, .wheelEdgeTimerExpiry .right),
   (s.capture.angle.edgeTimer, .angleEdgeTimerExpiry),
   (s.capture.link.gateTimer, .linkGateExpiry),
   (s.authority.record.deadline, .handoverDeadlineExpiry),
   (s.authority.demands.cab.lifetime, .demandLifetimeExpiry .cab),
   (s.authority.demands.supervisor.lifetime, .demandLifetimeExpiry .supervisor),
   (s.resolver.timer, .resolutionTimerExpiry),
   (s.hold.ctx.timer, .holdTimerExpiry),
   (s.hold.brake.overspeedTimer, .overspeedTimerExpiry),
   (s.hold.brake.noRetardTimer, .noRetardTimerExpiry),
   (s.grid.banks.one.handshake, .handshakeTimerExpiry .one),
   (s.grid.banks.two.handshake, .handshakeTimerExpiry .two),
   (s.grid.banks.one.boundary, .periodBoundary .one),
   (s.grid.banks.two.boundary, .periodBoundary .two),
   (s.grid.banks.one.onTime, .chopperOnTimeEnd .one),
   (s.grid.banks.two.onTime, .chopperOnTimeEnd .two),
   (s.steering.timer, .steeringTimerExpiry),
   (s.steering.cab.lifetime, .cabStatusLifetimeExpiry),
   (s.overload.report.lifetime, .driveReportLifetimeExpiry),
   (s.overload.timer, .overloadTimerExpiry),
   (s.overload.integrators.ml.dwell, .dwellTimerExpiry .ml),
   (s.overload.integrators.mr.dwell, .dwellTimerExpiry .mr),
   (s.overload.integrators.g1.dwell, .dwellTimerExpiry .g1),
   (s.overload.integrators.g2.dwell, .dwellTimerExpiry .g2)]

/-- The holds of the pool's slots, with the command of their expiry (R30, R31). -/
def holdTimers (s : State) : List (Timer × Instr) :=
  (List.range 20).map fun k => (limitTimer (k + 12) s, .holdTimerExpiryOfLimit (k + 12))

/-- The expiries that are due. -/
def dueExpiries (s : State) : List Instr :=
  ((timers s ++ holdTimers s).filter fun t => isDue t.1).map (·.2)

/-- What the clock brings next: a microsecond passes, or an expiry that is due is taken. -/
inductive ClockEvent
  | passes
  | expires (c : Instr)
deriving DecidableEq, Repr

/-- What the clock brings next, and the state it brings it to. While a reset is in progress it brings
nothing (R177; assumption log 5). With several expiries due, an open value says which is first
(R12, R32, R67 and others; assumption log 3). -/
def clockEvent (s : State) : ClockEvent × State :=
  match dueExpiries s with
  | [] => (.passes, passTime s)
  | [c] => (.expires c, s)
  | c :: cs =>
      (.expires ((c :: cs).getD (Config.dueOrder s.draws % (c :: cs).length) c),
       s.withDraws (s.draws + 1))

end Sys2Proof.Machine
end

