-- ==== Sys2Proof/Machine/Dispatch.lean ====
section
/-! DEFINITION. exec: the effect of a command, one arm and one meaning per constructor of Instr. -/

namespace Sys2Proof.Machine

/-- The effect of a command on everything but the queue of commands waiting. -/
def exec (i : Instr) (s : State) : Host.Outcome State Fault Refusal :=
  match i with
  | .powerOn => Sys2Proof.Machine.execPowerOn s
  | .resetLine pulse => Sys2Proof.Machine.execResetLine pulse s
  | .resetEnd sfit kfb1 kfb2 => Sys2Proof.Machine.execResetEnd sfit kfb1 kfb2 s
  | .wheelEdge w => Sys2Proof.Machine.execWheelEdge w s
  | .wheelEdgeTimerExpiry w => Sys2Proof.Machine.execWheelEdgeTimerExpiry w s
  | .angleRisingEdge => Sys2Proof.Machine.execAngleRisingEdge s
  | .angleFallingEdge => Sys2Proof.Machine.execAngleFallingEdge s
  | .angleEdgeTimerExpiry => Sys2Proof.Machine.execAngleEdgeTimerExpiry s
  | .lvfEdge => Sys2Proof.Machine.execLvfEdge s
  | .linkGateExpiry => Sys2Proof.Machine.execLinkGateExpiry s
  | .nop p f => Sys2Proof.Machine.execNop p f s
  | .truncated p bytes early => Sys2Proof.Machine.execTruncated p bytes early s
  | .unknownRequest p code f => Sys2Proof.Machine.execUnknownRequest p code f s
  | .readRecord p f => Sys2Proof.Machine.execReadRecord p f s
  | .readTable p f => Sys2Proof.Machine.execReadTable p f s
  | .takeNotices p f => Sys2Proof.Machine.execTakeNotices p f s
  | .setNoticeMask p f => Sys2Proof.Machine.execSetNoticeMask p f s
  | .setNoticeThreshold p f => Sys2Proof.Machine.execSetNoticeThreshold p f s
  | .postLimit p f => Sys2Proof.Machine.execPostLimit p f s
  | .withdrawLimit p f => Sys2Proof.Machine.execWithdrawLimit p f s
  | .holdTimerExpiryOfLimit slot => Sys2Proof.Machine.execHoldTimerExpiryOfLimit slot s
  | .claim p f => Sys2Proof.Machine.execClaim p f s
  | .release p f => Sys2Proof.Machine.execRelease p f s
  | .yieldAuthority p f => Sys2Proof.Machine.execYield p f s
  | .withdrawBid p f => Sys2Proof.Machine.execWithdrawBid p f s
  | .submitDemand p f => Sys2Proof.Machine.execSubmitDemand p f s
  | .handoverDeadlineExpiry => Sys2Proof.Machine.execHandoverDeadlineExpiry s
  | .demandLifetimeExpiry x => Sys2Proof.Machine.execDemandLifetimeExpiry x s
  | .resolutionTimerExpiry => Sys2Proof.Machine.execResolutionTimerExpiry s
  | .holdTimerExpiry => Sys2Proof.Machine.execHoldTimerExpiry s
  | .overspeedTimerExpiry => Sys2Proof.Machine.execOverspeedTimerExpiry s
  | .noRetardTimerExpiry => Sys2Proof.Machine.execNoRetardTimerExpiry s
  | .feedbackRises b => Sys2Proof.Machine.execFeedbackRises b s
  | .feedbackFalls b => Sys2Proof.Machine.execFeedbackFalls b s
  | .handshakeTimerExpiry b => Sys2Proof.Machine.execHandshakeTimerExpiry b s
  | .periodBoundary b => Sys2Proof.Machine.execPeriodBoundary b s
  | .steeringTimerExpiry => Sys2Proof.Machine.execSteeringTimerExpiry s
  | .reportCab p f => Sys2Proof.Machine.execReportCab p f s
  | .cabStatusLifetimeExpiry => Sys2Proof.Machine.execCabStatusLifetimeExpiry s
  | .reportDrive p f => Sys2Proof.Machine.execReportDrive p f s
  | .driveReportLifetimeExpiry => Sys2Proof.Machine.execDriveReportLifetimeExpiry s
  | .overloadTimerExpiry => Sys2Proof.Machine.execOverloadTimerExpiry s
  | .dwellTimerExpiry e => Sys2Proof.Machine.execDwellTimerExpiry e s
  | .clearTrips p f => Sys2Proof.Machine.execClearTrips p f s
  | .profileWrite p f => Sys2Proof.Machine.execProfileWrite p f s
  | .commitProfile p f => Sys2Proof.Machine.execCommitProfile p f s
  | .chopperOnTimeEnd b => Sys2Proof.Machine.execChopperOnTimeEnd b s

end Sys2Proof.Machine
end

