-- ==== Sys2Proof/Machine/Step.lean ====
section
/-! DEFINITION. The step: the command at the front of the queue, or the clock when none waits. -/

namespace Sys2Proof.Machine

/-- One step. The command that has waited longest leaves the queue and has its effect. With no command
waiting the clock moves: a microsecond passes, or an expiry that is due is taken; during a reset the
block idles (DESIGN CHOICE, assumption log 2 and 5). -/
def step (s : State) : Host.Outcome State Fault Refusal :=
  match s.pending with
  | c :: rest => exec c (s.withPending rest)
  | [] =>
      if s.resetting.isSome then .next s
      else
        match clockEvent s with
        | (.passes, s') => .next s'
        | (.expires c, s') => exec c s'

/-- The state with the command a word spells at the front of the queue; unchanged where the word spells
none, which is always, since no row of the table gives its command any bits. -/
def State.withFetchWord (s : State) (nbits w : Nat) : State :=
  match decodeTableWord nbits w with
  | some c => s.withPending (c :: s.pending)
  | none => s

end Sys2Proof.Machine
end

