-- ==== Sys2Proof/Safety.lean ====
section
/-! DEFINITION. What a safe run of the governor is: the properties that the manual says always hold, each
as a predicate on State. The statements say that every step keeps them. -/

namespace Sys2Proof.Safety

open Sys2Proof.Machine

/-! ### Mode, authority, trips and the brake request line -/

/-- The governor mode agrees with everything that follows it: CONFIG lasts until the commit (R169); the
two units that record the mode hold it (R99, R111, R170); INHIBIT stands exactly while a DRIVE-class
cause is latched (R169, R173); authority seen is HELD exactly while the authority record is not VACANT
(R168), which it is not in CONFIG (R45), is not in READY, and is in ACTIVE (R169). -/
structure ModeInv (s : State) : Prop where
  config : s.governor.mode = .config ↔ s.profile.committed = false
  seenByHold : s.hold.ctx.modeSeen = s.governor.mode
  seenByGrid : s.grid.modeSeen = s.governor.mode
  inhibit : s.governor.mode = .inhibit ↔ hasClass .drive s.governor.trips = true
  seen : s.governor.authorityHeld = (s.authority.record.state != .vacant)
  held : s.governor.mode = .active → s.governor.authorityHeld = true
  vacant : s.governor.mode = .config ∨ s.governor.mode = .ready → s.governor.authorityHeld = false

/-- The brake request line is asserted in CONFIG and INHIBIT and while a reason is active, and only then
(R105). -/
def BrakeLineInv (s : State) : Prop :=
  s.hold.brake.asserted =
    brakeAsserted s.hold.ctx.modeSeen s.hold.brake.overspeed s.hold.brake.noRetard

/-! ### The limit table -/

/-- What a slot may hold: an internal slot its own key, with no hold and reason 0; a slot of the pool a
master's contribution, with a hold (R20, R21, R22). -/
def SlotFits (i : Nat) (c : Contribution) : Prop :=
  if i < 12 then internalKeys[i]? = some (keyOf c) ∧ c.hold = none ∧ c.reason = 0
  else (sourcePort c.source).isSome = true ∧ c.hold.isSome = true

/-- The number of present contributions of a master. -/
def postedBy (slots : List (Option Contribution)) (p : Port) : Nat :=
  slots.countP fun c => c.any fun c => sourcePort c.source == some p

/-- The limit table is as R20 to R23 and R38 describe it: 32 slots; each slot holds what it may; no two
slots hold one key; the counts are the numbers of the masters' contributions, at most 8 each, and the
pool's count is their sum; and the envelope is the one the table gives. -/
structure TableInv (s : State) : Prop where
  size : s.limits.slots.length = 32
  fits : ∀ i c, slotAt s.limits i = some c → SlotFits i c
  keys : ∀ i j c d, slotAt s.limits i = some c → slotAt s.limits j = some d → keyOf c = keyOf d → i = j
  counts : ∀ p, s.limits.counts.get p = postedBy s.limits.slots p
  quota : ∀ p, s.limits.counts.get p ≤ 8
  pool : s.limits.poolCount = s.limits.counts.i + s.limits.counts.c + s.limits.counts.s
  envelope : s.limits.envelope = deriveEnvelope s.limits.slots

/-! ### The notice queues -/

/-- A port record's queue (R193, R195): at most 16 entries; at most one ENVELOPE entry per field; the
threshold in 1..16; the notice line as its rule gives it; and nothing queued on an unfitted port S. -/
structure QueueOk (strap : Strap) (p : Port) (r : PortRecord) : Prop where
  room : r.queue.length ≤ 16
  once : r.queue.Pairwise fun m n => sameField m n = false
  threshold : 1 ≤ r.threshold ∧ r.threshold ≤ 16
  line : r.lineActive = noticeLine strap p r
  unfitted : p = .s → strap = .notFitted → r.queue = []

/-- Every port's queue is in order (R193, R195). While a reset is in progress the ports stand at their
reset values (R177), so that the strap sampled at its end finds them empty. -/
structure QueueInv (s : State) : Prop where
  ports : ∀ p, QueueOk s.ports.strap p (s.ports.recs.get p)
  resetting : s.resetting.isSome = true → ∀ p, s.ports.recs.get p = .reset

/-! ### Grants -/

/-- A grant record keeps to its caps: each torque is at most its cap, and 0 in NEUTRAL (R81, R82, R85). -/
def GrantOk (g : Grant) : Prop :=
  ∀ w, (g.wheels.get w).torque ≤ (g.wheels.get w).cap ∧
    (g.mode = .neutral → (g.wheels.get w).torque = 0)

/-- The forced record of R87: NEUTRAL, with no torque, cap or capability, binding ZERO, the speeds used and the pass
number of the last published record, the axle direction and the brake line as given, and of the other flags the
forced flag alone. -/
def forcedOf (last : Grant) (axle : Direction) (line : Bool) : Grant :=
  let wheel := fun w : WheelGrant =>
    { torque := 0, cap := 0, capability := 0, speedUsed := w.speedUsed, binding := .zero, bindingSource := none }
  { pass := last.pass, mode := .neutral, axle := axle, wheels := ⟨wheel last.wheels.left, wheel last.wheels.right⟩
    demandStale := false, handover := false, holdEngaged := false, brakeLine := line, directionHeld := false
    forced := true }

/-- The two records kept are grants that keep to their caps, and outside ACTIVE the last one grants no
torque (R69, R85, R87). -/
structure GrantInv (s : State) : Prop where
  last : GrantOk s.resolver.last
  previous : GrantOk s.resolver.previous
  quiet : s.governor.mode ≠ .active → s.resolver.last.mode = .neutral

/-! ### Authority -/

/-- The authority record has one of the shapes of R44, and the Supervisor takes no part in it while the
strap reads not fitted (R45). -/
inductive AuthShape : AuthRecord → Prop
  | vacant : AuthShape { state := .vacant, holder := none, claimant := none, bidder := none, deadline := none }
  | cab (bidder : Option Party) (h : bidder ≠ some .cab) : AuthShape
      { state := .held, holder := some .cab, claimant := none, bidder := bidder, deadline := none }
  | supervisor : AuthShape
      { state := .held, holder := some .supervisor, claimant := none, bidder := none, deadline := none }
  | handover (n : Nat) : AuthShape
      { state := .handover, holder := some .supervisor, claimant := some .cab, bidder := none,
        deadline := some n }

/-- Authority is as R44 and R45 describe it. -/
structure AuthInv (s : State) : Prop where
  shape : AuthShape s.authority.record
  config : s.governor.mode = .config → s.authority.record.state = .vacant
  strap : s.resetting = none → s.ports.strap = .notFitted →
    s.authority.record.holder ≠ some .supervisor ∧ s.authority.record.bidder = none ∧
      s.authority.demands.supervisor.freshness = .stale
  resetting : s.resetting.isSome = true →
    s.authority.record.state = .vacant ∧ s.authority.demands.supervisor.freshness = .stale

/-! ### Hold -/

/-- The hold context: the effective setpoint is the smallest source present; with none present the
integral, the effort and the last error are 0; B_hold is at most 1000, and the integral at most I_max
(R91, R96, R97). Before commit the integral is 0, no reason is active and neither timer of the brake record
runs (R92, R101). -/
structure HoldInv (s : State) : Prop where
  setpoint : s.hold.ctx.setpoint =
    smallest (present [s.hold.ctx.demandSource, s.hold.ctx.capSource, s.hold.ctx.staleSource])
  idle : holdEngaged s.hold.ctx = false →
    s.hold.ctx.integral = 0 ∧ s.hold.ctx.bHold = 0 ∧ s.hold.ctx.lastError = 0
  effort : s.hold.ctx.bHold ≤ 1000
  integral : s.profile.committed = true → s.hold.ctx.integral ≤ iMax s
  still : s.profile.committed = false → s.hold.ctx.integral = 0
  owner : s.hold.ctx.staleSource.isSome = s.hold.ctx.staleOwner.isSome
  quiet : s.profile.committed = false → s.hold.brake.overspeed = false ∧ s.hold.brake.noRetard = false ∧
    s.hold.brake.overspeedTimer = none ∧ s.hold.brake.noRetardTimer = none

/-! ### Banks -/

/-- A bank record (R108, R110, R117, R120, R121, R123, R127): the command is set in CLOSING and CLOSED;
the failure cause is present in FAILED; the chopper is enabled, and an open is pending, in CLOSED only; the duties are at most
1000; the gate is on only while enabled; the dump flag stands exactly in a CLOSED bank while the dump is
on; and the available power is the one its state gives. -/
structure BankOk (s : State) (b : BankId) (k : Bank) : Prop where
  command : k.command = true ↔ k.contactor = .closing ∨ k.contactor = .closed
  failure : k.failure.isSome = true ↔ k.contactor = .failed
  requested : k.enableRequested = true → k.contactor = .closed
  enabled : k.enableActive = true → k.contactor = .closed
  opening : k.openPending = true → k.contactor = .closed
  duties : k.dutyPending ≤ 1000 ∧ k.dutyActive ≤ 1000
  gate : k.gate = true → k.enableActive = true
  dump : k.dump = true ↔ s.grid.dumpOn = true ∧ k.contactor = .closed
  dumping : k.dump = true → k.enableActive = true
  avail : k.avail = availOf s b k

/-- Both banks are in order; the GRID value, the value the Grade Hold Unit has seen, and from commit on
the contribution in slot 1, are the sum of the available powers (R34, R101, R124); before commit both
banks are OPEN with no handshake running (R109, R111, R116). -/
structure GridInv (s : State) : Prop where
  one : BankOk s .one s.grid.banks.one
  two : BankOk s .two s.grid.banks.two
  value : s.grid.gridValue = s.grid.banks.one.avail + s.grid.banks.two.avail
  seen : s.hold.brake.gridSeen = s.grid.gridValue
  committed : s.grid.committed = s.profile.committed
  posted : s.grid.committed = true →
    (slotAt s.limits 1).map (·.value) = some s.grid.gridValue
  before : s.grid.committed = false →
    s.grid.banks.one.contactor = .open ∧ s.grid.banks.two.contactor = .open ∧
      s.grid.banks.one.handshake = none ∧ s.grid.banks.two.handshake = none

/-! ### Trips -/

/-- The set of latched causes agrees with the state of the causes' owners: an integrator is in TRIP, and a
bank is FAILED, exactly while its cause is latched (R117, R154, R159, R175); and slot 0 holds the TRIP
contribution exactly while a PROPEL-class cause is latched (R173). -/
structure TripInv (s : State) : Prop where
  thermal : ∀ e, (s.overload.integrators.get e).level = .trip ↔ thermalCause e ∈ s.governor.trips
  contactor : ∀ b, (s.grid.banks.get b).contactor = .failed ↔ contactorCause b ∈ s.governor.trips
  slot : (slotAt s.limits 0).isSome = hasClass .propel s.governor.trips
  first : s.governor.firstCause.isSome = !s.governor.trips.isEmpty

/-! ### Heat and shares -/

/-- Every integrator's heat lies within 0..2000 × τ and θ is floor(H / τ), from commit on (R153, R159). -/
def HeatInv (s : State) : Prop :=
  s.profile.committed = true → ∀ e,
    (s.overload.integrators.get e).heat ≤ 2000 * tau s e ∧
      (s.overload.integrators.get e).theta = (s.overload.integrators.get e).heat / tau s e

/-- The two effort shares sum to 1000 (R132). -/
def ShareInv (s : State) : Prop := s.steering.shares.left + s.steering.shares.right = 1000

/-! ### The contributions of the governor's own units -/

/-- The motor element of a wheel (R151). -/
def motorOf : Wheel → Element
  | .left => .ml
  | .right => .mr

/-- The grid element of a bank (R151). -/
def gridOf : BankId → Element
  | .one => .g1
  | .two => .g2

/-- What the propel and the retard THERMAL slot of a wheel hold for its motor's integrator (R157). -/
def thermalPosts (s : State) (i : Integrator) : Option Nat × Option Nat :=
  match i.level with
  | .normal | .warm => (none, none)
  | .derate => (some (tRated s * i.derate / 1000), some (tRated s * i.derate / 1000))
  | .trip => (some 0, some (tRated s * scalar s 0x04 8 / 1000))

/-- The value that stands in a slot of the limit table, if the slot is present. -/
def postedIn (s : State) (slot : Nat) : Option Nat := (slotAt s.limits slot).map (·.value)

/-- The internal slots agree with their owners' records: slot 2 with the STEER value (R136), slot 3 with the
payload cap (R162), slots 4 to 7 with the slip caps (R137), slots 8 to 11 with the motors' levels (R157); the
banks have seen the level and d of their integrators (R122, R158); a slip record has the shape of R137; and
before commit nothing is warm (R151). -/
structure PostsInv (s : State) : Prop where
  steer : postedIn s 2 = s.steering.steerValue
  payload : postedIn s 3 = s.overload.payload.cap
  slip : ∀ w m, postedIn s (slipSlot w m) =
    if (s.steering.slips.get w).modeAt = some m then (s.steering.slips.get w).cap else none
  shape : ∀ w, ((s.steering.slips.get w).state = .normal ↔ (s.steering.slips.get w).modeAt = none) ∧
    ((s.steering.slips.get w).cap.isSome = true ↔
      (s.steering.slips.get w).state = .slipping ∨ (s.steering.slips.get w).state = .recovering)
  thermal : ∀ w, (postedIn s (thermalSlots w).1, postedIn s (thermalSlots w).2) =
    thermalPosts s (s.overload.integrators.get (motorOf w))
  seen : ∀ b, (bankOf s b).levelSeen = (s.overload.integrators.get (gridOf b)).level ∧
    (bankOf s b).derateSeen = (s.overload.integrators.get (gridOf b)).derate
  cold : s.profile.committed = false → s.overload.timer = none ∧
    ∀ e, (s.overload.integrators.get e).level = .normal ∧ (s.overload.integrators.get e).derate = 1000

/-! ### The profile -/

/-- The check of R182 fails at an entry of a profile: one line for each line of its table. -/
def Fails (p : Profile) (sec idx : Nat) : Check → Prop
  | .range => ∃ lo hi, entrySpec? sec idx = some (.scalar lo hi) ∧ ¬ (lo ≤ p.scalar sec idx ∧ p.scalar sec idx ≤ hi)
  | .count => (sec = 0x01 ∨ sec = 0x02) ∧ idx = 0 ∧ ¬ (2 ≤ p.scalar sec 0 ∧ p.scalar sec 0 ≤ 16)
  | .ascending => (sec = 0x01 ∨ sec = 0x02) ∧ 2 ≤ idx ∧ idx ≤ 16 ∧ idx ≤ p.scalar sec 0 ∧
      ¬ (p.point sec (idx - 1)).1 < (p.point sec idx).1
  | .order =>
      let v := p.scalar sec idx
      let before := p.scalar sec (idx - 1)
      -- derate_on, trip_on and h
      ((sec = 0x04 ∨ sec = 0x05 ∨ sec = 0x06) ∧
        ((idx = 4 ∧ ¬ before < v) ∨ (idx = 5 ∧ ¬ before < v) ∨ (idx = 6 ∧ ¬ v < p.scalar sec 3))) ∨
      -- V_trip
      (sec = 0x07 ∧ idx = 1 ∧ ¬ before < v) ∨
      -- geometry, slip_off and slide_off
      (sec = 0x0A ∧ ((idx = 0 ∧ v ≠ 1000) ∨ (1 ≤ idx ∧ idx ≤ 15 ∧ before < v) ∨
        ((idx = 17 ∨ idx = 19) ∧ ¬ v < before))) ∨
      -- payload thresholds and caps
      (sec = 0x0B ∧ (((idx = 2 ∨ idx = 3) ∧ ¬ before < v) ∨ ((idx = 5 ∨ idx = 6) ∧ before < v)))

/-- An entry of a kind is one the store can hold: 0, or a value in the entry's range (R179, R180). -/
def EntryFits : EntrySpec → Entry → Prop
  | .scalar lo hi, .scalar v => v = 0 ∨ (lo ≤ v ∧ v ≤ hi)
  | .count, .scalar v => v = 0 ∨ (2 ≤ v ∧ v ≤ 16)
  | .point, .point speed torque => speed ≤ 4000 ∧ torque ≤ 32000
  | _, _ => False

/-- The profile has the thirteen sections of R179 with their entries, each one the store can hold; and a
committed profile has passed every check (R182). -/
structure ProfileInv (s : State) : Prop where
  sections : s.profile.sections.map List.length = profileSpec.map List.length
  entries : ∀ sec idx spec, entrySpec? sec idx = some spec → EntryFits spec (s.profile.entry sec idx)
  passed : s.profile.committed = true → ∀ sec idx check, ¬ Fails s.profile sec idx check

/-! ### Notices of changes -/

/-- A notice has reached every port that takes its kind: it stands in the port's queue, unless the queue had
no room, and then the port's overflow flag is set (R193). -/
def Told (n : Notice) (s t : State) : Prop :=
  ∀ q, (s.ports.recs.get q).mask.getLsbD (n.kind - 1) = true → unfitted s q = false →
    n ∈ (t.ports.recs.get q).queue ∨ (t.ports.recs.get q).overflow = true

/-- Every change between two states that raises a notice has raised it, with what the notice carries (R38,
R55, R59, R105, R118, R135, R145, R150, R160, R162, R170, R172, R175). -/
structure ChangesTold (s t : State) : Prop where
  envelope : ∀ f, reported (s.limits.envelope.field f) ≠ reported (t.limits.envelope.field f) →
    Told (.envelope f (reported (t.limits.envelope.field f))) s t
  authority : { t.authority.record with deadline := none } ≠ { s.authority.record with deadline := none } →
    let r := t.authority.record
    ∃ cause, Told (.authority cause r.state r.holder r.claimant r.bidder.isSome) s t
  demand : ∀ x, (s.authority.demands.get x).freshness = .fresh →
    (t.authority.demands.get x).freshness = .stale →
    ∃ role, Told (.demandStale x role (t.authority.demands.get x).direction
      (t.authority.demands.get x).retard) s t
  drive : s.overload.report.freshness = .fresh → t.overload.report.freshness = .stale →
    Told (.driveStale t.overload.report.ready t.overload.report.current) s t
  cab : s.steering.cab.freshness = .fresh → t.steering.cab.freshness = .stale →
    Told (.cabStale t.steering.cab.supply t.steering.cab.parkBrake) s t
  level : ∀ e, (s.overload.integrators.get e).level ≠ (t.overload.integrators.get e).level →
    let i := t.overload.integrators.get e
    ∃ cause, Told (.level e i.level i.theta i.derate cause) s t
  payload : s.overload.payload.level ≠ t.overload.payload.level →
    let p := t.overload.payload
    Told (.payload p.level p.ratio p.payload p.cap) s t
  slip : ∀ w, (s.steering.slips.get w).state ≠ (t.steering.slips.get w).state →
    let r := t.steering.slips.get w
    ∃ cause, Told (.slip w r.state r.modeAt r.cap r.deviation cause) s t
  bank : ∀ b, (bankOf s b).contactor ≠ (bankOf t b).contactor →
    let k := bankOf t b
    ∃ cause, Told (.bank b k.contactor k.failure k.feedback k.avail cause) s t
  brake : s.hold.brake.asserted ≠ t.hold.brake.asserted →
    ∃ overspeed noRetard mode, Told (.brake t.hold.brake.asserted overspeed noRetard mode) s t
  latched : ∀ c, c ∉ s.governor.trips → c ∈ t.governor.trips →
    ∃ count, Told (.trip c .latched count t.governor.mode) s t
  cleared : ∀ c, c ∈ s.governor.trips → c ∉ t.governor.trips →
    Told (.trip c .cleared t.governor.trips.length t.governor.mode) s t
  mode : s.governor.mode ≠ t.governor.mode →
    ∃ cause, Told (.mode t.governor.mode s.governor.mode cause) s t

/-! ### What an event leaves alone -/

/-- What a port holds beside its notice queue and line: its last response, the bytes it clocked out in its
last transaction, its mask and its threshold (R187). -/
abbrev Front := Response × List Byte × BitVec 12 × Nat

/-- What a port record holds beside its notice queue and line. -/
def frontOf (r : PortRecord) : Front := (r.response, r.sdo, r.mask, r.threshold)

/-- What the three ports hold beside their notice queues and lines. -/
def front (u : PortUnit) : PerPort Front := ⟨frontOf u.recs.i, frontOf u.recs.c, frontOf u.recs.s⟩

/-- An event that is no transaction and no reset leaves the waiting commands, the count of free values, the
strap, and every port's response, mask and threshold as they were. -/
structure Aside (s t : State) : Prop where
  pending : t.pending = s.pending
  resetting : t.resetting = s.resetting
  draws : t.draws = s.draws
  strap : t.ports.strap = s.ports.strap
  front : front t.ports = front s.ports

/-- A request of a port leaves the waiting commands, the count of free values, the strap, every port's mask
and threshold, and the other ports' responses as they were. -/
structure Asked (p : Port) (s t : State) : Prop where
  pending : t.pending = s.pending
  resetting : t.resetting = s.resetting
  draws : t.draws = s.draws
  strap : t.ports.strap = s.ports.strap
  settings : ∀ q, (t.ports.recs.get q).mask = (s.ports.recs.get q).mask ∧
    (t.ports.recs.get q).threshold = (s.ports.recs.get q).threshold
  others : ∀ q, q ≠ p → (t.ports.recs.get q).response = (s.ports.recs.get q).response ∧
    (t.ports.recs.get q).sdo = (s.ports.recs.get q).sdo

/-- After an event at a wheel channel that computes the truck speed, v, its validity, the stationary flag and
the last valid pair are those R15, R16 and R17 give from the two channels as they now stand, and nothing
but the two channels and these has changed. -/
structure SpeedComputed (s t : State) : Prop where
  frame : t = s.withCapture { s.capture with
    wheels := t.capture.wheels, v := t.capture.v, vValid := t.capture.vValid,
    stationary := t.capture.stationary, lastPair := t.capture.lastPair }
  both : t.capture.wheels.left.state ≠ .fault → t.capture.wheels.right.state ≠ .fault →
    t.capture.v = min 700 ((t.capture.wheels.left.rpm + t.capture.wheels.right.rpm) * kSpeed s / 2000) ∧
      t.capture.vValid = true ∧
      t.capture.lastPair = ⟨t.capture.wheels.left.rpm, t.capture.wheels.right.rpm⟩
  left : t.capture.wheels.left.state ≠ .fault → t.capture.wheels.right.state = .fault →
    t.capture.v = min 700 (t.capture.wheels.left.rpm * kSpeed s / 1000) ∧ t.capture.vValid = true ∧
      t.capture.lastPair = s.capture.lastPair
  right : t.capture.wheels.left.state = .fault → t.capture.wheels.right.state ≠ .fault →
    t.capture.v = min 700 (t.capture.wheels.right.rpm * kSpeed s / 1000) ∧ t.capture.vValid = true ∧
      t.capture.lastPair = s.capture.lastPair
  neither : t.capture.wheels.left.state = .fault → t.capture.wheels.right.state = .fault →
    t.capture.v = s.capture.v ∧ t.capture.vValid = false ∧ t.capture.lastPair = s.capture.lastPair
  flag : t.capture.stationary = true ↔ t.capture.vValid = true ∧ t.capture.v < 5

/-- The truck's CLAIM, RELEASE, YIELD, WITHDRAW BID or handover deadline has changed the authority record
(R55, R169): the new record, with the demands as they were; what Governor Control makes of authority held or
given up; an AUTHORITY notice in every queue that takes it and has room; and nothing in the Capture Unit, the
Overload Monitor, the Profile Store or the trip record. -/
structure AuthorityChanged (new : AuthRecord) (cause : AuthCause) (s t : State) : Prop where
  authority : t.authority = { s.authority with record := new }
  capture : t.capture = s.capture
  overload : t.overload = s.overload
  profile : t.profile = s.profile
  trips : t.governor.trips = s.governor.trips ∧ t.governor.firstCause = s.governor.firstCause ∧
    t.governor.resetCause = s.governor.resetCause
  held : t.governor.authorityHeld =
    if (new.state = .vacant) ↔ (s.authority.record.state = .vacant) then s.governor.authorityHeld
    else decide (new.state ≠ .vacant)
  mode : t.governor.mode =
    if (new.state = .vacant) ↔ (s.authority.record.state = .vacant) then s.governor.mode
    else if s.governor.mode = .ready ∧ new.state ≠ .vacant then .active
    else if s.governor.mode = .active ∧ new.state = .vacant then .ready
    else s.governor.mode
  notice : ∀ q, (s.ports.recs.get q).mask.getLsbD 2 = true → unfitted s q = false →
    (s.ports.recs.get q).queue.length < 16 →
    .authority cause new.state new.holder new.claimant new.bidder.isSome ∈ (t.ports.recs.get q).queue

/-! ### What a statement about a request assumes -/

/-- A request that is taken: no reset is in progress, the transaction began after the last one, and the
port is fitted and may make the request (R187, R189, R191). -/
structure Taken (r : Request) (p : Port) (f : Frame) (s : State) : Prop where
  live : s.resetting = none
  current : f.early = false
  fitted : unfitted s p = false
  allowed : permitted r p = true

/-- A port's last response echoes a request's code and carries these result bytes, the answer code first. -/
def Answers (r : Request) (p : Port) (bytes : List Byte) (t : State) : Prop :=
  (t.ports.recs.get p).response.echo = r.code ∧ (t.ports.recs.get p).response.result = bytes

/-- A timer of the brake record after an evaluation of its condition (R102, R104): with the condition found
to hold a running timer runs on and a stopped one starts, unless the reason is active already; else it is
stopped. -/
def KeptTimer (holds : Prop) (reason : Bool) (start : Nat) (before after : Timer) : Prop :=
  (holds → after = if before.isSome then before else if reason then none else some start) ∧
  (¬ holds → after = none)

/-- The CLAMPED flag of a port's last response (R196). -/
def clampedFlag (t : State) (p : Port) : Bool := (t.ports.recs.get p).response.status.getLsbD 6

/-- A transaction has touched nothing but its own port's last response and the bytes it clocked out. -/
structure OnlyAnswered (p : Port) (s t : State) : Prop where
  blocks : t = s.withPorts t.ports
  others : ∀ q, q ≠ p → t.ports.recs.get q = s.ports.recs.get q
  strap : t.ports.strap = s.ports.strap
  own : t.ports.recs.get p =
    { s.ports.recs.get p with response := (t.ports.recs.get p).response
                              sdo := (t.ports.recs.get p).sdo }

end Sys2Proof.Safety
end

