-- ==== Sys2Proof/Certificates/Slice0/Obligations.lean ====
section
/-! DEFINITION. The statements about the model, in the order of the manual's chapters: what a step is,
resets, the Capture Unit, the Envelope Unit, the Authority Unit, the Effort Resolver, the Grade Hold Unit,
the Grid Drive Unit, the Steering Monitor, the Overload Monitor, Governor Control, the Profile Store and
the Master Port Unit. -/

section

open Sys2Proof Sys2Proof.Machine Sys2Proof.Safety

/-! ### Steps -/

/-- The command at the front of the queue is taken: a step with it in front is its effect on the state with
the queue's rest. -/
def Obligations.StepTakesTheFrontCommand : Prop :=
  ∀ (c : Instr) (rest : List Instr) (s : State),
    step (s.withPending (c :: rest)) = exec c (s.withPending rest)

/-- With no command waiting the clock moves: during a reset nothing happens; with no timer run out one
microsecond passes, and the counter rises by 1 and wraps (R1); otherwise the step is one of the expiries that
are due. The expiries that are due are those of the timers that run with nothing left; a microsecond takes 1
from every running timer, leaves a stopped one stopped, and touches nothing else. That an empty queue lets
time pass, that time stands still in a reset, and that an open value says which of several expiries is first,
are the model's choices (assumption log 2, 5 and 3). -/
def Obligations.ClockMovesWhenNoCommandWaits : Prop :=
  (∀ s : State, s.pending = [] →
    (s.resetting.isSome = true → step s = .next s) ∧
    (s.resetting = none → dueExpiries s = [] →
      step s = .next (passTime s) ∧ (passTime s).capture.counter = s.capture.counter + 1) ∧
    (s.resetting = none → dueExpiries s ≠ [] →
      ∃ c, c ∈ dueExpiries s ∧ ∃ n, step s = exec c (s.withDraws n))) ∧
  (∀ (s : State) (c : Instr), c ∈ dueExpiries s ↔
    (∃ w, c = .wheelEdgeTimerExpiry w ∧ (s.capture.wheels.get w).edgeTimer = some 0) ∨
    (c = .angleEdgeTimerExpiry ∧ s.capture.angle.edgeTimer = some 0) ∨
    (c = .linkGateExpiry ∧ s.capture.link.gateTimer = some 0) ∨
    (∃ slot e h, c = .holdTimerExpiryOfLimit slot ∧ 12 ≤ slot ∧ slot < 32 ∧ slotAt s.limits slot = some e ∧
      e.hold = some h ∧ h.left = 0) ∨
    (c = .handoverDeadlineExpiry ∧ s.authority.record.deadline = some 0) ∨
    (∃ x, c = .demandLifetimeExpiry x ∧ (s.authority.demands.get x).lifetime = some 0) ∨
    (c = .resolutionTimerExpiry ∧ s.resolver.timer = some 0) ∨
    (c = .holdTimerExpiry ∧ s.hold.ctx.timer = some 0) ∨
    (c = .overspeedTimerExpiry ∧ s.hold.brake.overspeedTimer = some 0) ∨
    (c = .noRetardTimerExpiry ∧ s.hold.brake.noRetardTimer = some 0) ∨
    (∃ b, c = .handshakeTimerExpiry b ∧ (bankOf s b).handshake = some 0) ∨
    (∃ b, c = .periodBoundary b ∧ (bankOf s b).boundary = some 0) ∨
    (∃ b, c = .chopperOnTimeEnd b ∧ (bankOf s b).onTime = some 0) ∨
    (c = .steeringTimerExpiry ∧ s.steering.timer = some 0) ∨
    (c = .cabStatusLifetimeExpiry ∧ s.steering.cab.lifetime = some 0) ∨
    (c = .driveReportLifetimeExpiry ∧ s.overload.report.lifetime = some 0) ∨
    (c = .overloadTimerExpiry ∧ s.overload.timer = some 0) ∨
    (∃ e, c = .dwellTimerExpiry e ∧ (s.overload.integrators.get e).dwell = some 0)) ∧
  (∀ s : State,
    let fall := fun t : Timer => t.map (· - 1)
    let wheel := fun c : WheelChannel => { c with edgeTimer := fall c.edgeTimer }
    let demand := fun d : Demand => { d with lifetime := fall d.lifetime }
    let bank := fun k : Bank =>
      { k with handshake := fall k.handshake, boundary := fall k.boundary, onTime := fall k.onTime }
    let element := fun i : Integrator => { i with dwell := fall i.dwell }
    passTime s = { s with
      capture := { s.capture with
        counter := s.capture.counter + 1
        wheels := ⟨wheel s.capture.wheels.left, wheel s.capture.wheels.right⟩
        angle := { s.capture.angle with edgeTimer := fall s.capture.angle.edgeTimer }
        link := { s.capture.link with gateTimer := fall s.capture.link.gateTimer } }
      limits := { s.limits with slots := s.limits.slots.map fun c => c.map fun c =>
        { c with hold := c.hold.map fun h => { h with left := h.left - 1 } } }
      authority :=
        { record := { s.authority.record with deadline := fall s.authority.record.deadline }
          demands := ⟨demand s.authority.demands.cab, demand s.authority.demands.supervisor⟩ }
      resolver := { s.resolver with timer := fall s.resolver.timer }
      hold :=
        { ctx := { s.hold.ctx with timer := fall s.hold.ctx.timer }
          brake := { s.hold.brake with overspeedTimer := fall s.hold.brake.overspeedTimer
                                       noRetardTimer := fall s.hold.brake.noRetardTimer } }
      grid := { s.grid with banks := ⟨bank s.grid.banks.one, bank s.grid.banks.two⟩ }
      steering := { s.steering with
        timer := fall s.steering.timer
        cab := { s.steering.cab with lifetime := fall s.steering.cab.lifetime } }
      overload := { s.overload with
        report := { s.overload.report with lifetime := fall s.overload.report.lifetime }
        integrators := ⟨element s.overload.integrators.ml, element s.overload.integrators.mr,
                        element s.overload.integrators.g1, element s.overload.integrators.g2⟩
        timer := fall s.overload.timer } })

/-- Every well-formed command has a next state, and there is no fault. The only refusal is of a TRUNCATED or an
UNKNOWN_REQUEST that no port can carry; that it is refused is the model's choice (assumption log 26). Whatever
bytes a port clocks in, they are the frame of exactly one well-formed command (R188, R189, R191, R196): a
request frame is the code, the argument length, the arguments and the bytes beyond them, a short one is
TRUNCATED, and reading a command's frame gives the command back. -/
def Obligations.EveryCommandCompletes : Prop :=
  (∀ (c : Instr) (s : State), c.wf = true → ∃ t, exec c s = .next t) ∧
  (∀ (c : Instr) (s : State) (r : Refusal), exec c s = .refused r → r = .illFormed ∧ c.wf = false) ∧
  (∀ (c : Instr) (s : State) (x : Fault), exec c s ≠ .fault x) ∧
  (∀ (p : Port) (early : Bool) (bytes : List Byte),
    (decodeFrame p early bytes).wf = true ∧
    (decodeFrame p early bytes).transaction? = some (p, early, bytes)) ∧
  (∀ (c : Instr) (p : Port) (early : Bool) (bytes : List Byte), c.wf = true →
    c.transaction? = some (p, early, bytes) → decodeFrame p early bytes = c) ∧
  (∀ (r : Request) (p : Port) (f : Frame), (r.command p f).transaction? =
    some (p, f.early, r.code :: BitVec.ofNat 8 f.args.length :: (f.args ++ f.extra)))

/-! ### Resets -/

/-- The reset sources (R177, R178, R187): the supply rising, and RSTN held low long enough, bring every block
to its reset values with the reset cause of R178, and a reset is then in progress; RESET_END ends it with the
strap and the two feedbacks as the inputs stand. A pulse on RSTN that is too short has that effect or none:
which, is an open value, and drawing it is the model's own (assumption log 4). That the strap keeps its last
sample while the reset is in progress, and that RESET_END does nothing when none is, are the model's choices
(assumption log 28). -/
def Obligations.ResetSourcesReachEveryBlock : Prop :=
  ∀ s : State,
    let whole := fun (cause : ResetCause) (t : State) =>
      t.resetting = some cause ∧ t.governor = Governor.reset cause ∧ t.capture = .reset ∧
      t.limits = .reset ∧ t.authority = .reset ∧ t.resolver = .reset ∧ t.hold = .reset ∧ t.grid = .reset ∧
      t.steering = .reset ∧ t.overload = .reset ∧ t.profile = .reset ∧
      t.ports = { recs := ⟨.reset, .reset, .reset⟩, strap := s.ports.strap } ∧ t.pending = s.pending
    (∃ t, exec .powerOn s = .next t ∧ whole .powerOn t ∧ t.draws = s.draws) ∧
    (∃ t, exec (.resetLine .full) s = .next t ∧ t.draws = s.draws ∧
      whole (if s.resetting = some .powerOn then .powerOn else .resetLine) t) ∧
    (∃ t, exec (.resetLine .short) s = .next t ∧
      (t = s.withDraws (s.draws + 1) ∨
        (whole (if s.resetting = some .powerOn then .powerOn else .resetLine) t ∧
          t.draws = s.draws + 1))) ∧
    (∀ (sfit : Strap) (one two : Bool),
      (s.resetting = none → exec (.resetEnd sfit one two) s = .next s) ∧
      (s.resetting.isSome = true → exec (.resetEnd sfit one two) s = .next
        { s with
          resetting := none
          ports := { s.ports with strap := sfit }
          grid := { s.grid with banks :=
            ⟨{ s.grid.banks.one with feedback := one }, { s.grid.banks.two with feedback := two }⟩ } }))

/-- While a reset is in progress no command but a reset source or its end has any effect (assumption log 5;
R65, R147, R186 and others say a request that a reset overtakes has none). -/
def Obligations.NothingIsTakenDuringAReset : Prop :=
  ∀ (c : Instr) (s : State), s.resetting.isSome = true → c.wf = true → c ≠ .powerOn →
    (∀ pulse, c ≠ .resetLine pulse) → (∀ sfit one two, c ≠ .resetEnd sfit one two) →
    exec c s = .next s

/-- What a reset leaves, in the manual's figures (R1, R2, R9, R13, R15, R42, R44, R57, R66, R91, R101, R108,
R130, R133, R148, R151, R168, R179, R187), and that the state after reset meets every invariant stated
below. -/
def Obligations.ResetValuesMeetTheInvariants : Prop :=
  let r := State.reset
  (r.governor.mode = .config ∧ r.governor.previous = none ∧ r.governor.trips = [] ∧
    r.governor.firstCause = none ∧ r.governor.authorityHeld = false) ∧
  (r.capture.counter = 0 ∧ r.capture.v = 0 ∧ r.capture.vValid = false ∧ r.capture.stationary = false ∧
    r.capture.link.state = .lost ∧ r.capture.link.gateTimer = some 10000 ∧ r.capture.angle.state = .fault ∧
    ∀ w, (r.capture.wheels.get w).state = .stopped ∧ (r.capture.wheels.get w).edgeTimer = none) ∧
  (r.limits.slots = List.replicate 32 none ∧ r.limits.nextOrder = 0 ∧ r.limits.poolCount = 0 ∧
    ∀ f, r.limits.envelope.field f = none) ∧
  (r.authority.record.state = .vacant ∧ ∀ x, (r.authority.demands.get x).freshness = .stale) ∧
  (r.resolver.timer = none ∧ r.resolver.pass = 0 ∧ r.resolver.last.mode = .neutral ∧
    r.resolver.last.brakeLine = true) ∧
  (r.hold.brake.asserted = true ∧ r.hold.ctx.bHold = 0 ∧ r.hold.ctx.setpoint = none) ∧
  (∀ b, (r.grid.banks.get b).contactor = .open ∧ (r.grid.banks.get b).command = false ∧
    (r.grid.banks.get b).gate = false ∧ (r.grid.banks.get b).derateSeen = 1000) ∧
  (r.steering.shares = ⟨500, 500⟩ ∧ r.steering.ratio = 1000 ∧ r.steering.cab.parkBrake = .applied ∧
    r.steering.cab.freshness = .stale ∧ ∀ w, (r.steering.slips.get w).state = .normal) ∧
  (r.overload.report.freshness = .stale ∧ ∀ e, (r.overload.integrators.get e).heat = 0 ∧
    (r.overload.integrators.get e).derate = 1000) ∧
  (r.profile.committed = false ∧ ∀ sec idx, r.profile.scalar sec idx = 0 ∧ r.profile.point sec idx = (0, 0)) ∧
  (∀ p, (r.ports.recs.get p).queue = [] ∧ (r.ports.recs.get p).threshold = 1 ∧
    (∀ k, k < 12 → (r.ports.recs.get p).mask.getLsbD k = true) ∧
    (r.ports.recs.get p).response.echo = 0xFF ∧ (r.ports.recs.get p).response.result = [0xFF]) ∧
  (ModeInv r ∧ BrakeLineInv r ∧ HoldInv r ∧ TableInv r ∧ QueueInv r ∧ GrantInv r ∧ AuthInv r ∧ GridInv r ∧
    TripInv r ∧ HeatInv r ∧ ShareInv r ∧ PostsInv r ∧ ProfileInv r)

/-! ### Capture Unit -/

/-- A rising edge at a wheel input that is no tooth (R2, R3, R6): before commit it is ignored; a first edge
leaves its stamp and starts the timer; a noise edge restarts the timer and, in FAULT, the clear run, and else
counts toward the fourth in a row, which faults the channel, computes v again (R15), and hands the speed-loss
event when the other channel is in FAULT already (R19). That v is formed before SPEED_SENSE_LOST is latched, so
that its first-cause record can hold v invalid, is the model's reading (assumption log 16). -/
def Obligations.WheelEdgeThatIsNoTooth : Prop :=
  ∀ (w : Wheel) (s : State), s.resetting = none →
    let c := s.capture.wheels.get w
    let timer := startMs (stationaryTimeout s)
    (s.profile.committed = false → exec (.wheelEdge w) s = .next s) ∧
    (s.profile.committed = true → c.prevStamp = none →
      exec (.wheelEdge w) s = .next (updWheel w (fun c =>
        { c with prevStamp := some s.capture.counter, edgeTimer := timer }) s)) ∧
    (∀ p, s.profile.committed = true → c.prevStamp = some p →
      (s.capture.counter - p).toNat < 60000000 / (rpmMaxValid s * teeth s) →
      (c.state = .fault →
        exec (.wheelEdge w) s =
          .next (updWheel w (fun c => { c with clearRun := 0, edgeTimer := timer }) s)) ∧
      (c.state ≠ .fault → c.noiseRun < 3 →
        exec (.wheelEdge w) s =
          .next (updWheel w (fun c => { c with noiseRun := c.noiseRun + 1, edgeTimer := timer }) s)) ∧
      (c.state ≠ .fault → 3 ≤ c.noiseRun →
        ∃ t, SpeedComputed s t ∧
          t.capture.wheels = s.capture.wheels.set w
            { state := .fault, prevStamp := some p, ring := [], rpm := 0, noiseRun := 0, clearRun := 0,
              edgeTimer := timer } ∧
          exec (.wheelEdge w) s = .next
            (if (s.capture.wheels.get (otherWheel w)).state = .fault then latch .speedSenseLost t else t)))

/-- A rising edge that ends a valid period (R3, R4, R5, R7): the period joins the ring, of four the oldest
leaves, the stamp is kept and the timer restarted. In STOPPED and TURNING the rpm is formed from the ring and v
is computed (R15); in FAULT the clear run counts, the rpm stays 0, and the sixteenth period ends the fault. -/
def Obligations.WheelEdgeThatEndsAValidPeriod : Prop :=
  ∀ (w : Wheel) (s : State) (p : Stamp), s.resetting = none → s.profile.committed = true →
    let c := s.capture.wheels.get w
    let now := s.capture.counter
    let period := (now - p).toNat
    let timer := startMs (stationaryTimeout s)
    let ring := (if 4 ≤ c.ring.length then c.ring.drop 1 else c.ring) ++ [period]
    let rpm := min 4000 (ring.length * 60000000 / (ring.sum * teeth s))
    c.prevStamp = some p → 60000000 / (rpmMaxValid s * teeth s) ≤ period →
    (c.state ≠ .fault →
      ∃ t, exec (.wheelEdge w) s = .next t ∧ SpeedComputed s t ∧
        t.capture.wheels = s.capture.wheels.set w
          { state := .turning, prevStamp := some now, ring := ring, rpm := rpm, noiseRun := 0,
            clearRun := c.clearRun, edgeTimer := timer }) ∧
    (c.state = .fault → c.clearRun < 15 →
      exec (.wheelEdge w) s = .next (updWheel w (fun c =>
        { c with prevStamp := some now, ring := ring, rpm := 0, clearRun := c.clearRun + 1,
                 edgeTimer := timer }) s)) ∧
    (c.state = .fault → 15 ≤ c.clearRun →
      ∃ t, exec (.wheelEdge w) s = .next t ∧ SpeedComputed s t ∧
        t.capture.wheels = s.capture.wheels.set w
          { state := .turning, prevStamp := some now, ring := ring, rpm := rpm, noiseRun := 0, clearRun := 0,
            edgeTimer := timer })

/-- A wheel channel's edge timer expires (R8): whatever its state the channel is STOPPED, with its ring, rpm,
stamp and runs gone and the timer stopped, and v is computed again (R15). -/
def Obligations.WheelEdgeTimerStopsTheChannel : Prop :=
  ∀ (w : Wheel) (s : State), s.resetting = none → (s.capture.wheels.get w).edgeTimer.isSome = true →
    ∃ t, exec (.wheelEdgeTimerExpiry w) s = .next t ∧ SpeedComputed s t ∧
      t.capture.wheels = s.capture.wheels.set w
        { state := .stopped, prevStamp := none, ring := [], rpm := 0, noiseRun := 0, clearRun := 0,
          edgeTimer := none }

/-- The steering-angle channel (R9, R10, R11, R12): a rising edge with both stamps held completes a period,
which is valid with a length of 1000..4000 µs and a duty of 50..950, and moves the state; every rising edge
starts a new period; a falling edge leaves the first falling stamp; every edge restarts the 20 ms timer; and
its expiry faults an OK channel and clears the stamps. -/
def Obligations.AngleChannelFollowsItsEdges : Prop :=
  ∀ s : State, s.resetting = none →
    let a := s.capture.angle
    let now := s.capture.counter
    let with' := fun (a : AngleChannel) => s.withCapture { s.capture with angle := a }
    -- a rising edge that completes no period
    ((a.risingStamp = none ∨ a.fallingStamp = none) → exec .angleRisingEdge s = .next (with'
      { a with risingStamp := some now, fallingStamp := none, edgeTimer := some 20000 })) ∧
    -- a rising edge that completes one
    (∀ r f, a.risingStamp = some r → a.fallingStamp = some f →
      let period := (now - r).toNat
      let high := (f - r).toNat
      let inBand := 1000 ≤ period ∧ period ≤ 4000
      let duty := if 1000 ≤ period ∧ period ≤ 4000 then high * 1000 / period else a.duty
      let valid := inBand ∧ 50 ≤ high * 1000 / period ∧ high * 1000 / period ≤ 950
      let reading : Int := if duty < 100 then -450 else if duty ≤ 900 then (((duty : Int) - 500) * 9).tdiv 8
        else 450
      let taken := { a with period := period, highTime := high, duty := duty, risingStamp := some now,
                            fallingStamp := none, edgeTimer := some 20000 }
      (a.state = .ok → valid →
        exec .angleRisingEdge s = .next (with' { taken with angle := reading, outRun := 0 })) ∧
      (a.state = .ok → ¬ valid → a.outRun < 2 →
        exec .angleRisingEdge s = .next (with' { taken with outRun := a.outRun + 1 })) ∧
      (a.state = .ok → ¬ valid → 2 ≤ a.outRun →
        exec .angleRisingEdge s =
          .next (with' { taken with state := .fault, angle := 0, outRun := 0, validRun := 0 })) ∧
      (a.state = .fault → valid → a.validRun < 9 →
        exec .angleRisingEdge s = .next (with' { taken with validRun := a.validRun + 1 })) ∧
      (a.state = .fault → valid → 9 ≤ a.validRun →
        exec .angleRisingEdge s =
          .next (with' { taken with state := .ok, angle := reading, validRun := 0 })) ∧
      (a.state = .fault → ¬ valid →
        exec .angleRisingEdge s = .next (with' { taken with validRun := 0 }))) ∧
    -- a falling edge
    (exec .angleFallingEdge s = .next (with' { a with
      fallingStamp := if a.risingStamp ≠ none ∧ a.fallingStamp = none then some now else a.fallingStamp
      edgeTimer := some 20000 })) ∧
    -- the timer
    (a.edgeTimer.isSome = true →
      (a.state = .ok → exec .angleEdgeTimerExpiry s = .next (with'
        { a with state := .fault, angle := 0, risingStamp := none, fallingStamp := none, outRun := 0,
                 validRun := 0, edgeTimer := none })) ∧
      (a.state = .fault → exec .angleEdgeTimerExpiry s = .next (with'
        { a with risingStamp := none, fallingStamp := none, validRun := 0, edgeTimer := none })))

/-- The link channel (R13, R14): an edge at LVF counts; the end of a gate reads the count, good from 100 on
with V = 5 × count − 500 clamped to 2800, else LOST with V held, and starts the next gate; from commit on the
result is handed to link protection. -/
def Obligations.LinkChannelReadsItsGate : Prop :=
  ∀ s : State, s.resetting = none →
    let n := s.capture.link.running
    let read : LinkChannel :=
      if 100 ≤ n then { running := 0, lastCount := n, v := min 2800 (5 * n - 500), state := .ok,
                        gateTimer := some 10000 }
      else { running := 0, lastCount := n, v := s.capture.link.v, state := .lost, gateTimer := some 10000 }
    let after := s.withCapture { s.capture with link := read }
    exec .lvfEdge s =
      .next (s.withCapture { s.capture with link := { s.capture.link with running := n + 1 } }) ∧
    (s.capture.link.gateTimer.isSome = true →
      (s.profile.committed = false → exec .linkGateExpiry s = .next after) ∧
      (s.profile.committed = true → exec .linkGateExpiry s =
        .next (gateEvent (if 100 ≤ n then .good (min 2800 (5 * n - 500)) else .senseLost) after)))

/-! ### Envelope Unit -/

/-- The envelope (R35, R36, R37): the contributions that apply to each field; a field is OPEN exactly when no
present contribution applies; otherwise it holds the smallest value among those that apply, with the source
and slot of the contribution that holds it, and of equal values the one in the lowest slot binds. -/
def Obligations.EnvelopeFieldIsTheSmallestInTheLowestSlot : Prop :=
  (∀ c : Contribution,
    (applies .propelL c = true ↔ c.kind = .propelTorque ∧ (c.scope = .left ∨ c.scope = .axle)) ∧
    (applies .propelR c = true ↔ c.kind = .propelTorque ∧ (c.scope = .right ∨ c.scope = .axle)) ∧
    (applies .retardTqL c = true ↔ c.kind = .retardTorque ∧ (c.scope = .left ∨ c.scope = .axle)) ∧
    (applies .retardTqR c = true ↔ c.kind = .retardTorque ∧ (c.scope = .right ∨ c.scope = .axle)) ∧
    (applies .retardPower c = true ↔ c.kind = .retardPower ∧ c.scope = .axle) ∧
    (applies .speed c = true ↔ c.kind = .speed ∧ c.scope = .axle)) ∧
  (∀ (slots : List (Option Contribution)) (f : EnvField),
    ((deriveEnvelope slots).field f = none ↔
      ∀ (i : Nat) (c : Contribution), slots[i]? = some (some c) → applies f c = false) ∧
    ∀ b : Bound, (deriveEnvelope slots).field f = some b →
      (∃ c : Contribution, slots[b.slot]? = some (some c) ∧ applies f c = true ∧ c.value = b.value ∧
        c.source = b.source) ∧
      ∀ (i : Nat) (c : Contribution), slots[i]? = some (some c) → applies f c = true →
        b.value ≤ c.value ∧ (c.value = b.value → b.slot ≤ i))

/-- POST LIMIT of a key that is present (R24, R25, R26, R28): the value, the reason and the hold take the
request's, clamped; the hold starts again; slot, order, counts and every other slot stay; the envelope is
derived again; and the answer is OK, REPLACED. -/
def Obligations.PostLimitReplacesAPresentKey : Prop :=
  ∀ (p : Port) (f : Frame) (s : State) (kb sb v1 v0 h1 h0 reason : Byte) (k : Kind) (sc : Scope)
    (slot : Nat) (c : Contribution),
    TableInv s → Taken .postLimit p f s → f.args = [kb, sb, v1, v0, h1, h0, reason] →
    kindOf? kb.toNat = some k → scopeOf? sb.toNat = some sc →
    (k = .retardPower ∨ k = .speed → sc = .axle) →
    slotAt s.limits slot = some c → keyOf c = (portSource p, k, sc) →
    let value := min (word16 v1 v0)
      (match k with | .propelTorque => 32000 | .retardTorque => 32000 | .retardPower => 8000 | .speed => 700)
    let hold := max 100 (min 30000 (word16 h1 h0))
    ∃ t, exec (.postLimit p f) s = .next t ∧ Asked p s t ∧
      t = (s.withLimits t.limits).withPorts t.ports ∧
      slotAt t.limits slot = some { c with value := value, reason := reason.toNat,
                                           hold := some ⟨hold, hold * 1000⟩ } ∧
      (∀ i, i ≠ slot → slotAt t.limits i = slotAt s.limits i) ∧
      t.limits.counts = s.limits.counts ∧ t.limits.poolCount = s.limits.poolCount ∧
      t.limits.nextOrder = s.limits.nextOrder ∧ t.limits.envelope = deriveEnvelope t.limits.slots ∧
      Answers .postLimit p (0x00 :: 0x01 :: (byte1 slot ++ byte2 c.order.toNat ++ byte2 value ++ byte2 hold ++
        byte1 (s.limits.counts.get p) ++ byte1 s.limits.poolCount)) t ∧
      (clampedFlag t p = true ↔ value ≠ word16 v1 v0 ∨ hold ≠ word16 h1 h0)

/-- POST LIMIT of a key that is absent (R22, R23, R25, R27, R28): with the master at 8 contributions it is
refused QUOTA, else with 20 in the pool TABLE_FULL, with the counts and nothing changed; else the contribution
is created in the lowest absent slot of the pool with the next order number, the master's and the pool's count
rise by 1, the envelope is derived again, and the answer is OK, CREATED. -/
def Obligations.PostLimitCreatesAnAbsentKey : Prop :=
  ∀ (p : Port) (f : Frame) (s : State) (kb sb v1 v0 h1 h0 reason : Byte) (k : Kind) (sc : Scope),
    TableInv s → Taken .postLimit p f s → f.args = [kb, sb, v1, v0, h1, h0, reason] →
    kindOf? kb.toNat = some k → scopeOf? sb.toNat = some sc →
    (k = .retardPower ∨ k = .speed → sc = .axle) →
    (∀ i c, slotAt s.limits i = some c → keyOf c ≠ (portSource p, k, sc)) →
    let value := min (word16 v1 v0)
      (match k with | .propelTorque => 32000 | .retardTorque => 32000 | .retardPower => 8000 | .speed => 700)
    let hold := max 100 (min 30000 (word16 h1 h0))
    let own := s.limits.counts.get p
    let pool := s.limits.poolCount
    if 8 ≤ own then
      ∃ t, exec (.postLimit p f) s = .next t ∧ OnlyAnswered p s t ∧
        Answers .postLimit p (0x16 :: (byte1 own ++ byte1 pool)) t
    else if 20 ≤ pool then
      ∃ t, exec (.postLimit p f) s = .next t ∧ OnlyAnswered p s t ∧
        Answers .postLimit p (0x17 :: (byte1 own ++ byte1 pool)) t
    else
      ∃ t slot, exec (.postLimit p f) s = .next t ∧ Asked p s t ∧
        t = (s.withLimits t.limits).withPorts t.ports ∧
        12 ≤ slot ∧ slot < 32 ∧ slotAt s.limits slot = none ∧
        (∀ j, 12 ≤ j → j < slot → (slotAt s.limits j).isSome = true) ∧
        slotAt t.limits slot = some
          { source := portSource p, kind := k, scope := sc, value := value, reason := reason.toNat,
            order := s.limits.nextOrder, hold := some ⟨hold, hold * 1000⟩ } ∧
        (∀ i, i ≠ slot → slotAt t.limits i = slotAt s.limits i) ∧
        t.limits.counts = s.limits.counts.set p (own + 1) ∧ t.limits.poolCount = pool + 1 ∧
        t.limits.nextOrder = s.limits.nextOrder + 1 ∧
        t.limits.envelope = deriveEnvelope t.limits.slots ∧
        Answers .postLimit p (0x00 :: 0x00 :: (byte1 slot ++ byte2 s.limits.nextOrder.toNat ++ byte2 value ++
          byte2 hold ++ byte1 (own + 1) ++ byte1 (pool + 1))) t ∧
        (clampedFlag t p = true ↔ value ≠ word16 v1 v0 ∨ hold ≠ word16 h1 h0)

/-- POST LIMIT and WITHDRAW LIMIT refused for their arguments (R24, R29): a wrong length or a code that names
nothing is BAD_VALUE, a kind of the whole axle with another scope BAD_SCOPE; nothing changes, and a refused
POST LIMIT carries the counts (R28). -/
def Obligations.LimitRequestsRefuseBadArguments : Prop :=
  ∀ (p : Port) (f : Frame) (s : State),
    let counts := byte1 (s.limits.counts.get p) ++ byte1 s.limits.poolCount
    (Taken .postLimit p f s →
      let refusedWith := fun code : Byte =>
        ∃ t, exec (.postLimit p f) s = .next t ∧ OnlyAnswered p s t ∧ Answers .postLimit p (code :: counts) t
      (f.args.length ≠ 7 → refusedWith 0x14) ∧
      (∀ kb sb rest, f.args = kb :: sb :: rest → f.args.length = 7 →
        (0x03 < kb ∨ 0x02 < sb → refusedWith 0x14) ∧
        (kb = 0x02 ∨ kb = 0x03 → sb < 0x02 → refusedWith 0x15))) ∧
    (Taken .withdrawLimit p f s →
      let refusedWith := fun code : Byte =>
        ∃ t, exec (.withdrawLimit p f) s = .next t ∧ OnlyAnswered p s t ∧ Answers .withdrawLimit p [code] t
      (f.args.length ≠ 2 → refusedWith 0x14) ∧
      (∀ kb sb, f.args = [kb, sb] →
        (0x03 < kb ∨ 0x02 < sb → refusedWith 0x14) ∧
        (kb = 0x02 ∨ kb = 0x03 → sb < 0x02 → refusedWith 0x15)))

/-- WITHDRAW LIMIT with good arguments (R29): a key that is absent is NO_SUCH and nothing changes; one that is
present leaves its slot, both counts fall by 1, the envelope is derived again, and the answer is OK with the
entry as it was removed. -/
def Obligations.WithdrawLimitRemovesTheKey : Prop :=
  ∀ (p : Port) (f : Frame) (s : State) (kb sb : Byte) (k : Kind) (sc : Scope),
    TableInv s → Taken .withdrawLimit p f s → f.args = [kb, sb] →
    kindOf? kb.toNat = some k → scopeOf? sb.toNat = some sc →
    (k = .retardPower ∨ k = .speed → sc = .axle) →
    ((∀ i c, slotAt s.limits i = some c → keyOf c ≠ (portSource p, k, sc)) →
      ∃ t, exec (.withdrawLimit p f) s = .next t ∧ OnlyAnswered p s t ∧ Answers .withdrawLimit p [0x18] t) ∧
    (∀ slot c h, slotAt s.limits slot = some c → keyOf c = (portSource p, k, sc) → c.hold = some h →
      ∃ t, exec (.withdrawLimit p f) s = .next t ∧ Asked p s t ∧
        t = (s.withLimits t.limits).withPorts t.ports ∧
        slotAt t.limits slot = none ∧ (∀ i, i ≠ slot → slotAt t.limits i = slotAt s.limits i) ∧
        t.limits.counts = s.limits.counts.set p (s.limits.counts.get p - 1) ∧
        t.limits.poolCount = s.limits.poolCount - 1 ∧ t.limits.nextOrder = s.limits.nextOrder ∧
        t.limits.envelope = deriveEnvelope t.limits.slots ∧
        Answers .withdrawLimit p (0x00 :: (byte1 slot ++ byte2 c.order.toNat ++ byte2 c.value ++
          byte2 (h.left / 1000) ++ byte1 (s.limits.counts.get p - 1) ++ byte1 (s.limits.poolCount - 1))) t)

/-- The hold of a master contribution expires (R31, R39): the slot becomes absent, the owner's and the pool's
count fall by 1, the envelope is derived again, and the owner's queue, where it takes the kind and has room,
holds the LIMIT_EXPIRED notice; no other queue has gained one. -/
def Obligations.LimitHoldExpiryRemovesTheEntry : Prop :=
  ∀ (slot : Nat) (s : State) (c : Contribution) (h : LimitHold) (p : Port),
    s.resetting = none → TableInv s → slotAt s.limits slot = some c → c.hold = some h →
    sourcePort c.source = some p →
    ∃ t, exec (.holdTimerExpiryOfLimit slot) s = .next t ∧ Aside s t ∧
      t = (s.withLimits t.limits).withPorts t.ports ∧
      slotAt t.limits slot = none ∧ (∀ i, i ≠ slot → slotAt t.limits i = slotAt s.limits i) ∧
      t.limits.counts = s.limits.counts.set p (s.limits.counts.get p - 1) ∧
      t.limits.poolCount = s.limits.poolCount - 1 ∧ t.limits.nextOrder = s.limits.nextOrder ∧
      t.limits.envelope = deriveEnvelope t.limits.slots ∧
      ((s.ports.recs.get p).mask.getLsbD 1 = true → unfitted s p = false →
        (s.ports.recs.get p).queue.length < 16 →
        .limitExpired slot c ∈ (t.ports.recs.get p).queue) ∧
      (∀ q, q ≠ p → .limitExpired slot c ∈ (t.ports.recs.get q).queue →
        .limitExpired slot c ∈ (s.ports.recs.get q).queue)

/-- Every step keeps the limit table as R20 to R23 and R38 describe it: 32 slots, each with what it may hold, no
key twice, counts that agree with the entries and stay within 8 for each master, and an envelope that agrees
with the table. And every step keeps the internal slots in agreement with their owners' records: slot 2 with the
STEER value (R136), slot 3 with the payload cap (R162), slots 4 to 7 with the slip caps (R137), slots 8 to 11 with
the motors' levels and derate factors (R157), and with them the levels and factors the banks have seen (R122,
R158). -/
def Obligations.EveryStepKeepsTheLimitTable : Prop :=
  (∀ s t : State, TableInv s → step s = .next t → TableInv t) ∧
  (∀ s t : State, TableInv s → PostsInv s → step s = .next t → PostsInv t)

/-! ### Authority Unit -/

/-- A CLAIM of the Cab (R46, R47): NOT_READY in CONFIG; granted in VACANT; ALREADY while the Cab holds and in
HANDOVER; and while the Supervisor holds it starts a handover, with the deadline at the handover window. That
near a full queue the AUTHORITY notice still finds room, since it joins before the other notices of the event,
is the model's order (assumption log 8). The bid is answered as a flag, which is the model's code for it
(assumption log 36). -/
def Obligations.ClaimOfTheCab : Prop :=
  ∀ (f : Frame) (s : State), Taken .claim .c f s → f.args = [] →
    let r := s.authority.record
    let keeps := fun code : Byte => ∃ t, exec (.claim .c f) s = .next t ∧ OnlyAnswered .c s t ∧
      Answers .claim .c (code :: recordBytes r) t
    let moves := fun (new : AuthRecord) (qualifier : Byte) => ∃ t, exec (.claim .c f) s = .next t ∧
      Asked .c s t ∧ AuthorityChanged new .claimCab s t ∧
      Answers .claim .c (0x00 :: qualifier :: recordBytes new) t
    (s.governor.mode = .config → keeps 0x19) ∧
    (s.governor.mode ≠ .config →
      (r.state = .vacant → moves { state := .held, holder := some .cab, claimant := none, bidder := none,
                                   deadline := none } 0x00) ∧
      (r.state = .held → r.holder = some .cab → keeps 0x02) ∧
      (r.state = .held → r.holder = some .supervisor →
        moves { r with state := .handover, claimant := some .cab,
                       deadline := some (handoverWindow s * 1000) } 0x01) ∧
      (r.state = .handover → keeps 0x02))

/-- A CLAIM of the Supervisor (R46, R48): NOT_READY in CONFIG; in VACANT granted at rest and else MOVING; while
the Cab holds, a bid, or ALREADY with one placed; ALREADY while the Supervisor holds; and OPERATOR_TAKEOVER in
HANDOVER. That near a full queue the AUTHORITY notice still finds room, since it joins before the other notices
of the event, is the model's order (assumption log 8). The bid is answered as a flag, which is the model's code
for it (assumption log 36). -/
def Obligations.ClaimOfTheSupervisor : Prop :=
  ∀ (f : Frame) (s : State), Taken .claim .s f s → f.args = [] →
    let r := s.authority.record
    let keeps := fun code : Byte => ∃ t, exec (.claim .s f) s = .next t ∧ OnlyAnswered .s s t ∧
      Answers .claim .s (code :: recordBytes r) t
    let moves := fun (new : AuthRecord) (qualifier : Byte) => ∃ t, exec (.claim .s f) s = .next t ∧
      Asked .s s t ∧ AuthorityChanged new .claimSupervisor s t ∧
      Answers .claim .s (0x00 :: qualifier :: recordBytes new) t
    (s.governor.mode = .config → keeps 0x19) ∧
    (s.governor.mode ≠ .config →
      (r.state = .vacant → s.capture.stationary = true →
        moves { state := .held, holder := some .supervisor, claimant := none, bidder := none,
                deadline := none } 0x00) ∧
      (r.state = .vacant → s.capture.stationary = false → keeps 0x1A) ∧
      (r.state = .held → r.holder = some .cab → r.bidder = none →
        moves { r with bidder := some .supervisor } 0x02) ∧
      (r.state = .held → r.holder = some .cab → r.bidder ≠ none → keeps 0x02) ∧
      (r.state = .held → r.holder = some .supervisor → keeps 0x02) ∧
      (r.state = .handover → keeps 0x1D))

/-- RELEASE of the Cab and of the Supervisor, YIELD and WITHDRAW BID (R46, R49, R50, R51, R53): who may give
authority up, to whom it passes, and when the request is refused. These three and CLAIM are refused BAD_VALUE
with arguments, and a CLAIM with arguments in CONFIG either so or NOT_READY; the record stays as it was. That
near a full queue the AUTHORITY notice still finds room, since it joins before the other notices of the event,
is the model's order (assumption log 8). The bid is answered as a flag, which is the model's code for it
(assumption log 36). -/
def Obligations.ReleaseYieldAndWithdrawBid : Prop :=
  (∀ (f : Frame) (s : State), f.args = [] →
    let r := s.authority.record
    let vacant : AuthRecord :=
      { state := .vacant, holder := none, claimant := none, bidder := none, deadline := none }
    let heldBy := fun x : Party => ({ state := .held, holder := some x, claimant := none, bidder := none,
                                      deadline := none } : AuthRecord)
    let keeps := fun (c : Instr) (q : Request) (p : Port) (code : Byte) => ∃ t, exec c s = .next t ∧
      OnlyAnswered p s t ∧ Answers q p (code :: recordBytes r) t
    let moves := fun (c : Instr) (q : Request) (p : Port) (new : AuthRecord) (cause : AuthCause)
        (qualifier : Byte) => ∃ t, exec c s = .next t ∧ Asked p s t ∧ AuthorityChanged new cause s t ∧
      Answers q p (0x00 :: qualifier :: recordBytes new) t
    (Taken .release .c f s →
      (r.state ≠ .held ∨ r.holder = some .supervisor → keeps (.release .c f) .release .c 0x1B) ∧
      (r.state = .held → r.holder = some .cab →
        (r.bidder ≠ none → s.authority.demands.supervisor.freshness = .fresh →
          moves (.release .c f) .release .c (heldBy .supervisor) .releaseCab 0x03) ∧
        (r.bidder ≠ none → s.authority.demands.supervisor.freshness = .stale →
          keeps (.release .c f) .release .c 0x1C) ∧
        (r.bidder = none → s.capture.stationary = true →
          moves (.release .c f) .release .c vacant .releaseCab 0x04) ∧
        (r.bidder = none → s.capture.stationary = false → keeps (.release .c f) .release .c 0x1A))) ∧
    (Taken .release .s f s →
      (r.state = .vacant ∨ (r.state = .held ∧ r.holder = some .cab) →
        keeps (.release .s f) .release .s 0x1B) ∧
      (r.state = .held → r.holder = some .supervisor →
        (s.capture.stationary = true →
          moves (.release .s f) .release .s vacant .releaseSupervisor 0x04) ∧
        (s.capture.stationary = false → keeps (.release .s f) .release .s 0x1A)) ∧
      (r.state = .handover →
        moves (.release .s f) .release .s (heldBy .cab) .releaseSupervisor 0x05)) ∧
    (Taken .yieldAuthority .s f s →
      (r.state = .handover →
        moves (.yieldAuthority .s f) .yieldAuthority .s (heldBy .cab) .yielded 0x05) ∧
      (r.state ≠ .handover → keeps (.yieldAuthority .s f) .yieldAuthority .s 0x1B)) ∧
    (Taken .withdrawBid .s f s →
      (r.bidder ≠ none →
        moves (.withdrawBid .s f) .withdrawBid .s { r with bidder := none } .releaseSupervisor 0x06) ∧
      (r.bidder = none → keeps (.withdrawBid .s f) .withdrawBid .s 0x18))) ∧
  (∀ (p : Port) (f : Frame) (s : State), f.args ≠ [] →
    let keeps := fun (q : Request) (code : Byte) => ∃ t, exec (q.command p f) s = .next t ∧
      OnlyAnswered p s t ∧ Answers q p (code :: recordBytes s.authority.record) t
    (∀ q, q = .release ∨ q = .yieldAuthority ∨ q = .withdrawBid → Taken q p f s → keeps q 0x14) ∧
    (Taken .claim p f s →
      (s.governor.mode ≠ .config → keeps .claim 0x14) ∧
      (s.governor.mode = .config → keeps .claim 0x14 ∨ keeps .claim 0x19)))

/-- SUBMIT DEMAND (R58): NOT_READY in CONFIG; BAD_VALUE for a wrong length or direction; else the sender's
record takes the values, clamped, is FRESH and its lifetime starts; the authority record and the other demand
stay, and the Grade Hold Unit is reached only where the holder's stale demand has become fresh (R60). -/
def Obligations.SubmitDemandStoresTheDemand : Prop :=
  ∀ (p : Port) (x : Party) (f : Frame) (s : State), Taken .submitDemand p f s → portParty p = some x →
    let refusedWith := fun code : Byte => ∃ t, exec (.submitDemand p f) s = .next t ∧ OnlyAnswered p s t ∧
      Answers .submitDemand p [code] t
    (s.governor.mode = .config → refusedWith 0x19) ∧
    (s.governor.mode ≠ .config → f.args.length ≠ 7 → refusedWith 0x14) ∧
    (∀ d p1 p0 r1 r0 h1 h0 : Byte, s.governor.mode ≠ .config → f.args = [d, p1, p0, r1, r0, h1, h0] →
      (0x02 < d → refusedWith 0x14) ∧
      (∀ dir, directionOf? d.toNat = some dir →
        let propel := min 1000 (word16 p1 p0)
        let retard := min 1000 (word16 r1 r0)
        let setpoint := if word16 h1 h0 = 0xFFFF then none else some (min 700 (word16 h1 h0))
        let stored : Demand :=
          { direction := dir, propel := propel, retard := retard, setpoint := setpoint, freshness := .fresh,
            lifetime := some (demandLifetime s * 1000) }
        ∃ t, exec (.submitDemand p f) s = .next t ∧ Asked p s t ∧
          t = ((s.withAuthority t.authority).withHold t.hold).withPorts t.ports ∧
          t.authority = { s.authority with demands := s.authority.demands.set x stored } ∧
          ((s.authority.demands.get x).freshness = .fresh ∨ s.authority.record.holder ≠ some x →
            t.hold = s.hold) ∧
          Answers .submitDemand p (0x00 :: (byte1 dir.code ++ byte2 propel ++ byte2 retard ++ byte2? setpoint ++
            byte2 (demandLifetime s) ++ byte1 s.authority.record.state.code ++
            byte1? (s.authority.record.holder.map partyCode))) t ∧
          (clampedFlag t p = true ↔ 1000 < word16 p1 p0 ∨ 1000 < word16 r1 r0 ∨
            (700 < word16 h1 h0 ∧ word16 h1 h0 ≠ 0xFFFF))))

/-- The two timers of the Authority Unit: the handover deadline makes the Cab the holder with a forced notice
(R52), and a demand's lifetime makes the demand STALE with its values kept and a DEMAND_STALE notice in every
queue that takes it and has room (R59); only a holder's demand reaches the Grade Hold Unit (R60), which on a
moving truck sets the STALE source (R95). That near a full queue the AUTHORITY and DEMAND_STALE notices still
find room, since they join before a BRAKE notice of the event, is the model's order (assumption log 8). -/
def Obligations.AuthorityTimersExpire : Prop :=
  (∀ s : State, s.resetting = none → s.authority.record.state = .handover →
    s.authority.record.deadline.isSome = true →
    ∃ t, exec .handoverDeadlineExpiry s = .next t ∧ Aside s t ∧
      AuthorityChanged { state := .held, holder := some .cab, claimant := none, bidder := none,
                         deadline := none } .deadline s t) ∧
  (∀ (x : Party) (s : State), s.resetting = none → (s.authority.demands.get x).lifetime.isSome = true →
    let d := s.authority.demands.get x
    let r := s.authority.record
    let role : Role := if r.holder = some x then .holder else if r.claimant = some x then .claimant
      else if r.bidder = some x then .bidder else .none
    ∃ t, exec (.demandLifetimeExpiry x) s = .next t ∧ Aside s t ∧
      t = ((s.withAuthority t.authority).withHold t.hold).withPorts t.ports ∧
      t.authority = { s.authority with
        demands := s.authority.demands.set x { d with freshness := .stale, lifetime := none } } ∧
      (r.holder ≠ some x → t.hold = s.hold) ∧
      (r.holder = some x → s.capture.stationary = false →
        t.hold.ctx.staleSource = some s.capture.v ∧ t.hold.ctx.staleOwner = some x) ∧
      ∀ q, (s.ports.recs.get q).mask.getLsbD 3 = true → unfitted s q = false →
        (s.ports.recs.get q).queue.length < 16 →
        .demandStale x role d.direction d.retard ∈ (t.ports.recs.get q).queue)

/-- The effective demand (R61, R62, R63, R64). In a handover, before the park brake, the two demands, each that
is STALE first reduced, are blended; propel is the smaller and 0 where the directions differ, retard the
larger, the setpoint the smaller of those present, and the direction the one both give, or else the axle's
for an ask with an axle direction and the Supervisor's for an ask without. Outside a handover it is neutral in
VACANT and else the holder's demand, of which a STALE one keeps its direction and retard alone. The park brake
takes propel to 0. -/
def Obligations.HandoverDemandIsABlend : Prop :=
  (∀ (s : State) (axle : Direction), s.authority.record.state = .handover →
    let c := s.authority.demands.cab
    let v := s.authority.demands.supervisor
    let d := effectiveDemand (some axle) s
    let propelOf := fun x : Demand => if x.freshness = .stale then 0 else x.propel
    let setpointOf := fun x : Demand => if x.freshness = .stale then none else x.setpoint
    d.origin = .blend ∧ d.handover = true ∧ d.retard = max c.retard v.retard ∧
    (d.stale = true ↔ c.freshness = .stale ∨ v.freshness = .stale) ∧
    (c.direction = v.direction → d.direction = c.direction) ∧
    (c.direction ≠ v.direction → d.direction = axle ∧ d.propel = 0) ∧
    (c.direction = v.direction → s.steering.cab.parkBrake = .released →
      d.propel = min (propelOf c) (propelOf v)) ∧
    (∀ a b, setpointOf c = some a → setpointOf v = some b → d.setpoint = some (min a b)) ∧
    (setpointOf c = none → d.setpoint = setpointOf v) ∧
    (setpointOf v = none → d.setpoint = setpointOf c) ∧
    (s.steering.cab.parkBrake = .applied → d.propel = 0 ∧ d.parkBrake = true) ∧
    (s.steering.cab.parkBrake = .released → d.parkBrake = false) ∧
    effectiveDemand none s =
      { d with direction := if c.direction = v.direction then c.direction else v.direction }) ∧
  (∀ (s : State) (ask : Option Direction), s.authority.record.state ≠ .handover →
    let d := effectiveDemand ask s
    d.handover = false ∧ (d.parkBrake = true ↔ s.steering.cab.parkBrake = .applied) ∧
    (s.steering.cab.parkBrake = .applied → d.propel = 0) ∧
    (s.authority.record.state = .vacant → d.direction = .neutral ∧ d.propel = 0 ∧ d.retard = 0 ∧
      d.setpoint = none ∧ d.origin = .none ∧ d.stale = false) ∧
    (∀ x, s.authority.record.state = .held → s.authority.record.holder = some x →
      let e := s.authority.demands.get x
      d.direction = e.direction ∧ d.retard = e.retard ∧
      d.origin = (match x with | .cab => .cab | .supervisor => .supervisor) ∧
      (e.freshness = .fresh → d.stale = false ∧ d.setpoint = e.setpoint ∧
        (s.steering.cab.parkBrake = .released → d.propel = e.propel)) ∧
      (e.freshness = .stale → d.stale = true ∧ d.setpoint = none ∧ d.propel = 0)))

/-- Every step keeps the authority record in one of the shapes of R44, VACANT in CONFIG, and never held by or
promised to the Supervisor while the strap reads not fitted (R45). -/
def Obligations.EveryStepKeepsAuthority : Prop :=
  ∀ s t : State, AuthInv s → step s = .next t → AuthInv t

/-! ### Effort Resolver -/

/-- The resolution timer expires (R67, R69, R84, R85, R86, R102, R104, R138): it restarts with 5 ms; in CONFIG and
INHIBIT nothing else happens; in READY and ACTIVE the record of the pass, with the next pass number, becomes
the last published, and the last becomes the one before it. The Grid Drive Unit takes its duties from that
record; the Grade Hold Unit keeps its mode and bindings and evaluates both brake timers; the Steering Monitor
keeps its mode, torques and capabilities and ends a slip found in the other mode, its contributions withdrawn
and its notice raised. In READY the record is NEUTRAL with no torque. -/
def Obligations.ResolutionExpiryPublishesAPass : Prop :=
  ∀ s : State, s.resetting = none → s.resolver.timer.isSome = true → GridInv s →
    (s.governor.mode = .config ∨ s.governor.mode = .inhibit →
      exec .resolutionTimerExpiry s = .next (s.withResolver { s.resolver with timer := some 5000 })) ∧
    (s.governor.mode = .ready ∨ s.governor.mode = .active →
      let g := passRecord s
      let b := s.hold.brake
      let capped := g.mode = .retard ∧
        (capsEffort g.wheels.left.binding = true ∨ capsEffort g.wheels.right.binding = true)
      g.pass = s.resolver.pass + 1 ∧ g.forced = false ∧ g.holdEngaged = holdEngaged s.hold.ctx ∧
      g.brakeLine = b.asserted ∧
      (s.governor.mode = .ready → g.mode = .neutral ∧ g.demandStale = false ∧ g.handover = false ∧
        ∀ w, (g.wheels.get w).torque = 0) ∧
      (s.governor.mode = .active →
        g.demandStale = (effectiveDemand (some s.resolver.axle) s).stale ∧
        g.handover = (effectiveDemand (some s.resolver.axle) s).handover) ∧
      ∃ t, exec .resolutionTimerExpiry s = .next t ∧ Aside s t ∧
        t = (((((s.withResolver { timer := some 5000, axle := g.axle, pass := s.resolver.pass + 1, last := g,
                                  previous := s.resolver.last }).withGrid
          (gridPublication g s).grid).withHold t.hold).withSteering t.steering).withLimits
          t.limits).withPorts t.ports ∧
        t.hold.ctx = { s.hold.ctx with
          lastGrant := ⟨g.mode, g.wheels.left.binding, g.wheels.right.binding, g.pass⟩ } ∧
        t.hold.brake = { b with overspeedTimer := t.hold.brake.overspeedTimer,
                                noRetardTimer := t.hold.brake.noRetardTimer } ∧
        KeptTimer (capped ∧ ∃ x, s.hold.ctx.setpoint = some x ∧ x + margin s < s.capture.v) b.overspeed
          (brakeDelay s * 1000) b.overspeedTimer t.hold.brake.overspeedTimer ∧
        KeptTimer (s.hold.ctx.modeSeen = .active ∧ g.mode = .retard ∧ b.gridSeen = 0) b.noRetard 200000
          b.noRetardTimer t.hold.brake.noRetardTimer ∧
        t.steering = { s.steering with
          slips := t.steering.slips
          lastGrant := { mode := g.mode
                         torque := ⟨g.wheels.left.torque, g.wheels.right.torque⟩
                         capability := ⟨g.wheels.left.capability, g.wheels.right.capability⟩
                         pass := g.pass } } ∧
        (∀ n, n < 4 ∨ 7 < n → slotAt t.limits n = slotAt s.limits n) ∧
        ∀ w,
          let r := s.steering.slips.get w
          let ends := r.state ≠ .normal ∧ g.mode ≠ .neutral ∧ r.modeAt ≠ driveMode? g.mode
          (ends →
            t.steering.slips.get w = { r with state := .normal, modeAt := none, cap := none } ∧
            (∀ m, slotAt t.limits (slipSlot w m) = none) ∧
            Told (.slip w .normal none none r.deviation .modeChange) s t) ∧
          (¬ ends → t.steering.slips.get w = r ∧
            ∀ m, slotAt t.limits (slipSlot w m) = slotAt s.limits (slipSlot w m)))

/-- Stage 1 of a pass (R69, R70, R71, R72): the axle takes the demanded direction only with the truck
stationary, and else the change is held and propel is 0; the mode is RETARD while the larger of the demanded
retard and B_hold is above 0, else PROPEL with propel asked for and an axle direction, else NEUTRAL; Q is the
effort of the mode. READY runs it with the neutral demand and no hold effort. -/
def Obligations.PassSettlesDirectionAndMode : Prop :=
  ∀ s : State,
    let axle := s.resolver.axle
    let asked := effectiveDemand (some axle) s
    let d := if s.governor.mode = .active then asked else neutralDemand
    let bq := if s.governor.mode = .active then max asked.retard s.hold.ctx.bHold else 0
    let g := passRecord s
    let q := (passEfforts s).q
    (d.direction = axle → g.axle = axle ∧ g.directionHeld = false) ∧
    (d.direction ≠ axle → s.capture.stationary = true → g.axle = d.direction ∧ g.directionHeld = false) ∧
    (d.direction ≠ axle → s.capture.stationary = false → g.axle = axle ∧ g.directionHeld = true) ∧
    (0 < bq → g.mode = .retard ∧ q = bq) ∧
    (bq = 0 → g.directionHeld = false → 0 < d.propel → g.axle ≠ .neutral →
      g.mode = .propel ∧ q = d.propel) ∧
    (bq = 0 → g.directionHeld = true ∨ d.propel = 0 ∨ g.axle = .neutral → g.mode = .neutral ∧ q = 0)

/-- The capability of a wheel (R68, R73, R74, R75): 0 in NEUTRAL, with the inverter not ready, and in PROPEL with
both wheel channels in FAULT; otherwise read from the mode's table at the wheel's speed used, where a table is
read at a breakpoint as its torque, outside as the end's, and between two as a line rounded down. An inverter
is ready while its flag says so and the report is FRESH; the speed used is the wheel's own, its partner's while
its channel is in FAULT, and the last valid pair's while both are; and a pass's record carries this capability
and rpm', the speed used raised to rpm_floor. -/
def Obligations.CapabilityIsReadFromTheTable : Prop :=
  (∀ (s : State) (m : GrantMode) (w : Wheel),
    (m = .neutral ∨ inverterReady s w = false ∨ (m = .propel ∧ bothFault s = true) →
      capability s m w = 0) ∧
    (inverterReady s w = true → bothFault s = false →
      capability s .propel w = readCurve (propelTable s) (speedUsed s w)) ∧
    (inverterReady s w = true → capability s .retard w = readCurve (retardTable s) (speedUsed s w))) ∧
  (∀ (table : List (Nat × Nat)) (u i : Nat) (a b : Nat × Nat),
    table.Pairwise (fun x y => x.1 < y.1) → table[i]? = some a →
    (u = a.1 → readCurve table u = a.2) ∧
    (i = 0 → u ≤ a.1 → readCurve table u = a.2) ∧
    (i + 1 = table.length → a.1 ≤ u → readCurve table u = a.2) ∧
    (table[i + 1]? = some b → a.1 < u → u < b.1 →
      (readCurve table u : Int) =
        a.2 + ((b.2 : Int) - a.2) * ((u : Int) - a.1) / ((b.1 : Int) - a.1) ∧
      min a.2 b.2 ≤ readCurve table u ∧ readCurve table u ≤ max a.2 b.2)) ∧
  (∀ (s : State) (w : Wheel),
    let own := s.capture.wheels.get w
    let other := s.capture.wheels.get (otherWheel w)
    (inverterReady s w = true ↔
      s.overload.report.ready.get w = true ∧ s.overload.report.freshness = .fresh) ∧
    (bothFault s = true ↔ own.state = .fault ∧ other.state = .fault) ∧
    (own.state ≠ .fault → speedUsed s w = own.rpm) ∧
    (own.state = .fault → other.state ≠ .fault → speedUsed s w = other.rpm) ∧
    (own.state = .fault → other.state = .fault → speedUsed s w = s.capture.lastPair.get w) ∧
    ((passRecord s).wheels.get w).capability = capability s (passRecord s).mode w ∧
    ((passRecord s).wheels.get w).speedUsed = max (speedUsed s w) (rpmFloor s))

/-- The caps of a RETARD record (R79): each is the smallest of the wheel's capability, its retard field where
that is not OPEN, and its power share, and torque × rpm' summed over the wheels is at most RETARD_POWER × 9549;
from commit on RETARD_POWER is not OPEN. So in every step that publishes a RETARD record, that sum is at most
the RETARD_POWER of the state before it times 9549. -/
def Obligations.RetardRecordKeepsThePowerLaw : Prop :=
  (∀ (s : State) (b : Bound), ShareInv s → s.limits.envelope.retardPower = some b →
    (passRecord s).mode = .retard →
    let g := passRecord s
    (∀ w,
      let x := g.wheels.get w
      let share := b.value * s.steering.shares.get w * 9549 / (1000 * x.speedUsed)
      let field := match w with | .left => s.limits.envelope.retardTqL | .right => s.limits.envelope.retardTqR
      x.cap = min (min x.capability share) ((field.map (·.value)).getD x.capability)) ∧
    g.wheels.left.torque * g.wheels.left.speedUsed + g.wheels.right.torque * g.wheels.right.speedUsed ≤
      b.value * 9549) ∧
  (∀ s : State, TableInv s → GridInv s → s.profile.committed = true →
    s.limits.envelope.retardPower.isSome = true) ∧
  (∀ s t : State, ModeInv s → ShareInv s → TableInv s → GridInv s → step s = .next t →
    t.resolver.last ≠ s.resolver.last → t.resolver.last.mode = .retard →
    let g := t.resolver.last
    ∃ b, s.limits.envelope.retardPower = some b ∧
      g.wheels.left.torque * g.wheels.left.speedUsed + g.wheels.right.torque * g.wheels.right.speedUsed ≤
        b.value * 9549)

/-- Caps, targets, slew and bindings of a pass (R76, R77, R78, R81, R82, R83): the request from Q and the
capabilities; in PROPEL the cap is the smallest of the capability, the wheel's field where that is not OPEN,
and the taper where SPEED lies less than a band above v; the target the smaller of request and cap, a rise of
at most one slew step, a new mode from 0, a fall at once, and the reason that bound the grant, with the binding
source for LIMIT alone. -/
def Obligations.TorqueFollowsTargetSlewAndBinding : Prop :=
  ∀ (s : State) (w : Wheel),
    let g := passRecord s
    let x := g.wheels.get w
    let request := (passEfforts s).q * (g.wheels.left.capability + g.wheels.right.capability) *
      s.steering.shares.get w / 1000000
    let target := min request x.cap
    let before := (s.resolver.last.wheels.get w).torque
    let slew := match g.mode with | .propel => propelSlew s | .retard => retardSlew s | .neutral => 0
    let field := match g.mode, w with
      | .propel, .left => s.limits.envelope.propelL
      | .propel, .right => s.limits.envelope.propelR
      | .retard, .left => s.limits.envelope.retardTqL
      | .retard, .right => s.limits.envelope.retardTqR
      | .neutral, _ => none
    let v := s.capture.v
    let taper : Option Nat := match s.limits.envelope.speed with
      | none => none
      | some b => if b.value ≤ v then some 0
          else if b.value < v + taperBand s then some (x.capability * (b.value - v) / taperBand s) else none
    (g.mode = .neutral → x.torque = 0 ∧ x.cap = 0 ∧ x.binding = .zero ∧ x.bindingSource = none) ∧
    (g.mode = .propel → x.cap = min x.capability
      (min ((field.map (·.value)).getD x.capability) (taper.getD x.capability))) ∧
    (g.mode = s.resolver.last.mode → before < target → x.torque = min target (before + slew)) ∧
    (g.mode = s.resolver.last.mode → target ≤ before → x.torque = target) ∧
    (g.mode ≠ s.resolver.last.mode → x.torque = min target slew) ∧
    (g.mode ≠ .neutral →
      (x.torque < target → x.binding = .slew ∧ x.bindingSource = none) ∧
      (x.torque = target → request < x.cap → x.binding = .request ∧ x.bindingSource = none) ∧
      (x.torque = target → x.cap ≤ request →
        (x.cap = x.capability → x.binding = .capability ∧ x.bindingSource = none) ∧
        (x.cap ≠ x.capability →
          (∀ b, field = some b → b.value = x.cap → x.binding = .limit ∧ x.bindingSource = some b.source) ∧
          ((∀ b, field = some b → b.value ≠ x.cap) →
            x.binding = (if g.mode = .propel then .taper else .powerShare) ∧ x.bindingSource = none))))

/-- Every step keeps the grants (R69, R85, R87): no torque above its cap, none in a NEUTRAL record, and a NEUTRAL
last record whenever the governor mode is not ACTIVE; and the two effort shares sum to 1000 (R132). -/
def Obligations.EveryStepKeepsTheGrants : Prop :=
  (∀ s t : State, ModeInv s → GrantInv s → step s = .next t → GrantInv t) ∧
  (∀ s t : State, ShareInv s → step s = .next t → ShareInv t)

/-! ### Grade Hold Unit -/

/-- The hold timer expires (R92, R93, R94, R96, R97, R98, R102, R103): it restarts with 20 ms. In ACTIVE the
DEMAND and CAP sources are set, the setpoint formed, and with a source present the error, the integral and the
effort; outside ACTIVE only OVERSPEED is tested. OVERSPEED stays only while v is above the setpoint, and its
timer runs only while its condition holds. Three clauses are the model's: an update that finds no source keeps
windup held as it was (assumption log 21), an update outside ACTIVE leaves the overspeed timer as it is (assumption
log 22), and an OVERSPEED that joined while the hold was disengaged leaves at the update in ACTIVE that finds no
source, and not at one outside (assumption log 31). -/
def Obligations.HoldExpiryIsAHoldUpdate : Prop :=
  ∀ s : State, s.resetting = none → s.hold.ctx.timer.isSome = true →
    let c := s.hold.ctx
    let b := s.hold.brake
    let v := s.capture.v
    ∃ t, exec .holdTimerExpiry s = .next t ∧ Aside s t ∧ t = (s.withHold t.hold).withPorts t.ports ∧
      (c.modeSeen ≠ .active →
        t.hold.ctx = { c with timer := some 20000 } ∧ t.hold.brake.overspeedTimer = b.overspeedTimer ∧
        (t.hold.brake.overspeed = true ↔ b.overspeed = true ∧ ∀ x, c.setpoint = some x → x < v)) ∧
      (c.modeSeen = .active →
        let demand := (effectiveDemand none s).setpoint
        let cap := match s.limits.envelope.speed, c.capSource with
          | none, _ => none
          | some f, none => if f.value < v then some f.value else none
          | some f, some _ => if (v : Int) ≤ (f.value : Int) - holdRelease s then none else some f.value
        let setpoint := smallest (present [demand, cap, c.staleSource])
        let capped := c.lastGrant.mode = .retard ∧
          (capsEffort c.lastGrant.bindL = true ∨ capsEffort c.lastGrant.bindR = true)
        (setpoint = none → t.hold.ctx =
          { c with timer := some 20000, demandSource := demand, capSource := cap, setpoint := none,
                   integral := 0, bHold := 0, lastError := 0 }) ∧
        (∀ x, setpoint = some x →
          let e : Int := (v : Int) - x
          let i := if capped ∧ 0 < e then c.integral
            else (max 0 (min (iMax s : Int) (c.integral + ki s * e))).toNat
          t.hold.ctx = { c with
            timer := some 20000, demandSource := demand, capSource := cap, setpoint := some x, integral := i
            bHold := (max 0 (min 1000 ((kp s : Int) * e + (i / 1000 : Nat)))).toNat
            lastError := e, windupHeld := decide (capped ∧ 0 < e) }) ∧
        (t.hold.brake.overspeed = true ↔ b.overspeed = true ∧ ∃ x, setpoint = some x ∧ x < v) ∧
        (((∃ x, setpoint = some x ∧ x + margin s < v) ∧ capped →
            t.hold.brake.overspeedTimer =
              if b.overspeedTimer.isSome then b.overspeedTimer
              else if t.hold.brake.overspeed then none else some (brakeDelay s * 1000)) ∧
          (¬ ((∃ x, setpoint = some x ∧ x + margin s < v) ∧ capped) →
            t.hold.brake.overspeedTimer = none))) ∧
      t.hold.brake.noRetard = b.noRetard ∧ t.hold.brake.noRetardTimer = b.noRetardTimer ∧
      t.hold.brake.gridSeen = b.gridSeen ∧
      t.hold.brake.asserted = brakeAsserted c.modeSeen t.hold.brake.overspeed b.noRetard

/-- The overspeed and no-retard timers expire (R102, R104, R105): the reason joins, the timer stops, the line is
asserted, and where it was released every queue that takes BRAKE and has room holds the notice. Each publication,
a forced one too, keeps both timers by their conditions; each GRID event keeps the no-retard timer, ends
NO_RETARD where its value is above 0, and evaluates the line again, with a notice of every change of it (R101). -/
def Obligations.BrakeTimersAssertTheLine : Prop :=
  (∀ s : State, s.resetting = none →
    let b := s.hold.brake
    let noticed := fun (t : State) (overspeed noRetard : Bool) =>
      b.asserted = false → ∀ q, (s.ports.recs.get q).mask.getLsbD 9 = true → unfitted s q = false →
        (s.ports.recs.get q).queue.length < 16 →
        .brake true overspeed noRetard s.hold.ctx.modeSeen ∈ (t.ports.recs.get q).queue
    (b.overspeedTimer.isSome = true →
      ∃ t, exec .overspeedTimerExpiry s = .next t ∧ Aside s t ∧
        t = (s.withHold { s.hold with brake :=
          { b with overspeed := true, overspeedTimer := none, asserted := true } }).withPorts t.ports ∧
        noticed t true b.noRetard) ∧
    (b.noRetardTimer.isSome = true →
      ∃ t, exec .noRetardTimerExpiry s = .next t ∧ Aside s t ∧
        t = (s.withHold { s.hold with brake :=
          { b with noRetard := true, noRetardTimer := none, asserted := true } }).withPorts t.ports ∧
        noticed t b.overspeed true)) ∧
  (∀ (g : Grant) (s : State),
    let c := s.hold.ctx
    let b := s.hold.brake
    let t := holdPublication g s
    let capped := g.mode = .retard ∧
      (capsEffort g.wheels.left.binding = true ∨ capsEffort g.wheels.right.binding = true)
    t = s.withHold t.hold ∧
    t.hold.ctx = { c with lastGrant := ⟨g.mode, g.wheels.left.binding, g.wheels.right.binding, g.pass⟩ } ∧
    t.hold.brake = { b with overspeedTimer := t.hold.brake.overspeedTimer,
                            noRetardTimer := t.hold.brake.noRetardTimer } ∧
    KeptTimer (capped ∧ ∃ x, c.setpoint = some x ∧ x + margin s < s.capture.v) b.overspeed
      (brakeDelay s * 1000) b.overspeedTimer t.hold.brake.overspeedTimer ∧
    KeptTimer (c.modeSeen = .active ∧ g.mode = .retard ∧ b.gridSeen = 0) b.noRetard 200000
      b.noRetardTimer t.hold.brake.noRetardTimer) ∧
  (∀ (value : Nat) (s : State),
    let c := s.hold.ctx
    let b := s.hold.brake
    let t := holdGridEvent value s
    t = (s.withHold t.hold).withPorts t.ports ∧ Aside s t ∧ t.hold.ctx = c ∧
    t.hold.brake = { b with gridSeen := value, noRetard := b.noRetard && decide (value = 0)
                            noRetardTimer := t.hold.brake.noRetardTimer
                            asserted := brakeAsserted c.modeSeen b.overspeed t.hold.brake.noRetard } ∧
    KeptTimer (c.modeSeen = .active ∧ c.lastGrant.mode = .retard ∧ value = 0) b.noRetard 200000
      b.noRetardTimer t.hold.brake.noRetardTimer ∧
    (t.hold.brake.asserted ≠ b.asserted →
      Told (.brake t.hold.brake.asserted b.overspeed t.hold.brake.noRetard c.modeSeen) s t))

/-- Every step keeps the brake request line as R105 gives it, and the hold context as R91, R96 and R97 do: the
setpoint is the smallest source present, with none present the integral, the effort and the last error are 0,
the integral is at most I_max and the effort at most 1000, and before commit no reason is active. -/
def Obligations.EveryStepKeepsTheHoldUnit : Prop :=
  ∀ s t : State, ModeInv s → BrakeLineInv s → HoldInv s → step s = .next t → BrakeLineInv t ∧ HoldInv t

/-! ### Grid Drive Unit -/

/-- Edges at a bank's feedback input (R108, R112, R113, R115, R116, R117, R118): recorded always; from commit on a
rise closes a CLOSING bank, which the dump in force then holds, and starts the watch of an OPEN one; a fall
stops the watch and tests for a close, fails a CLOSED bank and latches its cause, and opens an OPENING one. The
other bank is untouched, and GRID is the sum of the available powers (R124). -/
def Obligations.FeedbackEdgesMoveTheBank : Prop :=
  ∀ (b : BankId) (s : State), s.resetting = none → GridInv s → TableInv s →
    let k := bankOf s b
    let only := fun k : Bank => s.withGrid { s.grid with banks := s.grid.banks.set b k }
    let power := if k.levelSeen = .trip then 0 else pRated s b * k.derateSeen / 1000
    let reached := fun (c : Instr) (k' : Bank) (t : State) => exec c s = .next t ∧ Aside s t ∧
      bankOf t b = k' ∧ (∀ o, o ≠ b → bankOf t o = bankOf s o) ∧ t.capture = s.capture ∧
      t.overload = s.overload ∧ t.authority = s.authority ∧ t.profile = s.profile ∧
      t.resolver = s.resolver ∧ t.steering = s.steering ∧ t.hold.ctx = s.hold.ctx ∧
      t.grid.gridValue = t.grid.banks.one.avail + t.grid.banks.two.avail ∧
      (slotAt t.limits 1).map (·.value) = some t.grid.gridValue ∧
      t.hold.brake.gridSeen = t.grid.gridValue
    let mayClose := s.grid.modeSeen = .active ∧ k.levelSeen ≠ .trip
    -- a rise
    (s.grid.committed = false ∨ k.contactor = .closed ∨ k.contactor = .opening ∨ k.contactor = .failed →
      exec (.feedbackRises b) s = .next (only { k with feedback := true })) ∧
    (s.grid.committed = true →
      (k.contactor = .open →
        exec (.feedbackRises b) s = .next (only { k with feedback := true, handshake := some 150000 })) ∧
      (k.contactor = .closing → ∃ t, t.governor = s.governor ∧ reached (.feedbackRises b)
        (if s.grid.dumpOn then
          { k with feedback := true, contactor := .closed, handshake := none, enableRequested := true,
                   avail := power, dump := true, dutyActive := 1000, enableActive := true, gate := true,
                   onTime := none }
        else
          { k with feedback := true, contactor := .closed, handshake := none, enableRequested := true,
                   avail := power }) t)) ∧
    -- a fall
    (s.grid.committed = false ∨ k.contactor = .closing ∨ k.contactor = .failed →
      exec (.feedbackFalls b) s = .next (only { k with feedback := false })) ∧
    (s.grid.committed = true →
      (k.contactor = .open → ¬ mayClose →
        exec (.feedbackFalls b) s = .next (only { k with feedback := false, handshake := none })) ∧
      (k.contactor = .open → mayClose → ∃ t, t.governor = s.governor ∧ reached (.feedbackFalls b)
        { k with feedback := false, contactor := .closing, command := true, handshake := some 150000 } t) ∧
      (k.contactor = .opening → ∃ t, t.governor = s.governor ∧ reached (.feedbackFalls b)
        (if s.grid.modeSeen = .active ∧ k.levelSeen ≠ .trip then
          { k with feedback := false, contactor := .closing, command := true, handshake := some 150000,
                   failure := none, avail := 0 }
        else
          { k with feedback := false, contactor := .open, command := false, handshake := none,
                   failure := none, avail := 0 }) t) ∧
      (k.contactor = .closed → ∃ t, contactorCause b ∈ t.governor.trips ∧ t.governor.mode = s.governor.mode ∧
        reached (.feedbackFalls b)
          { k with feedback := false, contactor := .failed, failure := some .dropped, command := false,
                   handshake := none, openPending := false, dump := false, enableRequested := false,
                   enableActive := false, dutyPending := 0, dutyActive := 0, gate := false, onTime := none,
                   avail := 0 } t))

/-- A bank's handshake timer expires (R112, R115, R116, R117): a CLOSING bank fails with NO_CLOSE; an OPENING one,
and an OPEN one with its feedback present, with WELDED; the cause is latched, the other bank is untouched, and
GRID is the sum of the available powers. -/
def Obligations.HandshakeExpiryFailsTheBank : Prop :=
  ∀ (b : BankId) (s : State), s.resetting = none → GridInv s → TableInv s → s.grid.committed = true →
    (bankOf s b).handshake.isSome = true →
    let k := bankOf s b
    let failed := fun cause : FailCause =>
      ∃ t, exec (.handshakeTimerExpiry b) s = .next t ∧ Aside s t ∧
        bankOf t b = { k with contactor := .failed, failure := some cause, command := false, handshake := none,
                              openPending := false, dump := false, enableRequested := false,
                              enableActive := false, dutyPending := 0, dutyActive := 0, gate := false,
                              onTime := none, avail := 0 } ∧
        (∀ o, o ≠ b → bankOf t o = bankOf s o) ∧ contactorCause b ∈ t.governor.trips ∧
        t.governor.mode = s.governor.mode ∧ t.capture = s.capture ∧ t.overload = s.overload ∧
        t.authority = s.authority ∧ t.profile = s.profile ∧ t.resolver = s.resolver ∧
        t.steering = s.steering ∧ t.hold.ctx = s.hold.ctx ∧
        t.grid.gridValue = t.grid.banks.one.avail + t.grid.banks.two.avail ∧
        (slotAt t.limits 1).map (·.value) = some t.grid.gridValue
    (k.contactor = .closing → failed .noClose) ∧
    (k.contactor = .opening → failed .welded) ∧
    (k.contactor = .open → k.feedback = true → failed .welded) ∧
    (k.contactor = .closed ∨ k.contactor = .failed ∨ (k.contactor = .open ∧ k.feedback = false) →
      exec (.handshakeTimerExpiry b) s =
        .next (s.withGrid { s.grid with banks := s.grid.banks.set b { k with handshake := none } }))

/-- A period boundary and the end of an on-time (R114, R119, R120, R121): the timer restarts; unless the dump holds
the bank the pending duty and enable are taken; a pending open with the enable then clear opens the contactor;
and the gate is on for floor(duty × period / 1000) µs, all the period at 1000, while the enable is active. -/
def Obligations.PeriodBoundaryTakesDutyAndEnable : Prop :=
  ∀ (b : BankId) (s : State), s.resetting = none → GridInv s → TableInv s → s.grid.committed = true →
    let k := bankOf s b
    let period := chopperPeriod s
    let only := fun k : Bank => s.withGrid { s.grid with banks := s.grid.banks.set b k }
    (k.onTime.isSome = true →
      exec (.chopperOnTimeEnd b) s = .next (only { k with gate := false, onTime := none })) ∧
    (k.boundary.isSome = true →
      let duty := if k.dump then k.dutyActive else k.dutyPending
      let enable := if k.dump then k.enableActive else k.enableRequested
      let on := duty * period / 1000
      (k.openPending = false ∨ enable = true →
        exec (.periodBoundary b) s = .next (only
          { k with boundary := some period, dutyActive := duty, enableActive := enable
                   gate := enable && decide (0 < on)
                   onTime := if enable = true ∧ 0 < on ∧ on < period then some on else none })) ∧
      (k.openPending = true → enable = false →
        let opened := { k with boundary := some period, dutyPending := 0, dutyActive := 0,
                               enableRequested := false, enableActive := false, gate := false,
                               onTime := none, openPending := false, command := false, avail := 0 }
        ∃ t, exec (.periodBoundary b) s = .next t ∧ Aside s t ∧ (∀ o, o ≠ b → bankOf t o = bankOf s o) ∧
          t.capture = s.capture ∧ t.overload = s.overload ∧ t.authority = s.authority ∧
          t.profile = s.profile ∧ t.governor = s.governor ∧ t.resolver = s.resolver ∧
          t.steering = s.steering ∧ t.hold.ctx = s.hold.ctx ∧
          t.grid.gridValue = t.grid.banks.one.avail + t.grid.banks.two.avail ∧
          (k.feedback = true →
            bankOf t b = { opened with contactor := .opening, handshake := some 150000 }) ∧
          (k.feedback = false →
            bankOf t b =
              if s.grid.modeSeen = .active ∧ k.levelSeen ≠ .trip then
                { opened with contactor := .closing, failure := none, command := true,
                              handshake := some 150000 }
              else { opened with contactor := .open, failure := none, handshake := none })))

/-- Duty from a published record (R125, R126): the retard power, less the auxiliary load, split by the available
powers; each bank's duty is the least that takes its share at the link voltage, at most 1000, and 0 below
100 V; a bank with nothing available gets none; and where the available powers are those the banks' states give
(R123) nothing else of a bank is touched. -/
def Obligations.PublicationWritesThePendingDuty : Prop :=
  ∀ (g : Grant) (s : State),
    let t := gridPublication g s
    let v := s.capture.link.v
    let pReq := if g.mode = .retard then g.wheels.left.torque * g.wheels.left.speedUsed / 9549 +
      g.wheels.right.torque * g.wheels.right.speedUsed / 9549 else 0
    let pDis := pReq - auxKw s
    let a1 := (bankOf s .one).avail
    let a2 := (bankOf s .two).avail
    t.grid.lastPass = g.pass ∧ t.grid.lastMode = g.mode ∧ t.grid.pReq = pReq ∧ t.grid.pDis = pDis ∧
    t.grid.vUsed = v ∧
    (0 < a1 → 0 < a2 → (bankOf t .one).share = pDis * a1 / (a1 + a2) ∧
      (bankOf t .one).share + (bankOf t .two).share = pDis) ∧
    (0 < a1 → a2 = 0 → (bankOf t .one).share = pDis) ∧ (a1 = 0 → 0 < a2 → (bankOf t .two).share = pDis) ∧
    (∀ b,
      let k := bankOf t b
      let need := k.share * 1000 * resistance s b
      ((bankOf s b).avail = 0 → k.share = 0 ∧ k.dutyPending = 0) ∧
      (g.mode ≠ .retard → k.dutyPending = 0) ∧
      (v < 100 → k.dutyPending = 0) ∧
      (100 ≤ v → k.dutyPending ≤ 1000 ∧ (k.dutyPending = 1000 ∨ need ≤ k.dutyPending * (v * v)) ∧
        ∀ n, n < k.dutyPending → n * (v * v) < need) ∧
      k = { bankOf s b with share := k.share, dutyPending := k.dutyPending, avail := availOf s b (bankOf s b) } ∧
      (GridInv s → k = { bankOf s b with share := k.share, dutyPending := k.dutyPending })) ∧
    t = s.withGrid t.grid

/-- Every step keeps the banks (R108, R110, R117, R120, R123, R124, R127): command, failure cause, enables, duties,
gate, dump flag and available power agree with the contactor state, and GRID is the sum of the available powers
in the unit, in slot 1 from commit on, and in what the Grade Hold Unit has seen. -/
def Obligations.EveryStepKeepsTheBanks : Prop :=
  ∀ s t : State, TableInv s → GridInv s → step s = .next t → GridInv t

/-! ### Steering Monitor -/

/-- The steering timer expires (R130, R131, R132, R136): it restarts with 20 ms; the angle group is read; the ratio
is read from the geometry table, the inner share is floor(1000 r / (1000 + r)) and the shares sum to 1000; STEER
holds the smallest cap that applies, in slot 2, or is absent; and then slip detection runs for the left wheel and
for the right one, each as the statement on the slip record gives it. -/
def Obligations.SteeringRunFormsRatioSharesAndSteer : Prop :=
  ∀ s : State, s.resetting = none → TableInv s → s.steering.committed = true →
    s.steering.timer.isSome = true →
    let a := s.capture.angle
    let m := a.angle.natAbs
    let i := m / 30
    let turning := a.state = .ok ∧ a.angle ≠ 0
    let supplyCap := match s.steering.cab.freshness, s.steering.cab.supply with
      | .fresh, .normal => []
      | .fresh, .lowPressure => [lowPressureCap s]
      | _, _ => [lowPrechargeCap s]
    let caps := supplyCap ++ (if a.state = .fault then [angleFaultCap s] else [])
    ∃ t, exec .steeringTimerExpiry s = .next t ∧ Aside s t ∧
      t = ((s.withSteering t.steering).withLimits t.limits).withPorts t.ports ∧
      t.steering = { s.steering with
        timer := some 20000, angleUsed := a.angle, angleStateUsed := a.state, ratio := t.steering.ratio
        inner := t.steering.inner, shares := t.steering.shares, steerValue := t.steering.steerValue
        slips := t.steering.slips } ∧
      (¬ turning → t.steering.ratio = 1000 ∧ t.steering.inner = .none ∧ t.steering.shares = ⟨500, 500⟩) ∧
      (turning →
        (450 ≤ m → t.steering.ratio = geometry s 15) ∧
        (m < 450 → m % 30 = 0 → t.steering.ratio = geometry s i) ∧
        (m < 450 → m % 30 ≠ 0 → (t.steering.ratio : Int) = max 0 (geometry s i +
          ((geometry s (i + 1) : Int) - geometry s i) * ((m : Int) - 30 * i) / 30)) ∧
        (0 < a.angle → t.steering.inner = .right ∧
          t.steering.shares.right = 1000 * t.steering.ratio / (1000 + t.steering.ratio)) ∧
        (a.angle < 0 → t.steering.inner = .left ∧
          t.steering.shares.left = 1000 * t.steering.ratio / (1000 + t.steering.ratio))) ∧
      t.steering.shares.left + t.steering.shares.right = 1000 ∧
      (caps = [] → t.steering.steerValue = none) ∧
      (∀ x, x ∈ caps → ∃ y, t.steering.steerValue = some y ∧ y ≤ x ∧ y ∈ caps) ∧
      (slotAt t.limits 2).map (·.value) = t.steering.steerValue ∧
      (∀ n, n ≠ 2 → n < 4 ∨ 7 < n → slotAt t.limits n = slotAt s.limits n) ∧
      ∃ u : State,
        u = ((s.withSteering { t.steering with slips := s.steering.slips }).withLimits u.limits).withPorts
          u.ports ∧
        Aside s u ∧ TableInv u ∧ (slotAt u.limits 2).map (·.value) = t.steering.steerValue ∧
        (∀ n, n ≠ 2 → slotAt u.limits n = slotAt s.limits n) ∧
        t = detectSlip .right (detectSlip .left u)

/-- Slip detection at one wheel (R139, R140, R141, R142, R143, R144, R145): the deviation from the expected speed,
and the move of the record from it, in a run that is not suspended; and the moves of a suspended run. A cap set or
changed stands in the wheel's slot of the mode at detection, one that is gone leaves both slots, every change of
state raises its notice, and no other slot and nothing of the other wheel changes. That the expected speed is the
formula's value with no bound of 4000 rpm, which R137 gives its field, is the model's choice (assumption log 17). -/
def Obligations.SlipRecordMovesByTheDeviation : Prop :=
  ∀ (w : Wheel) (s : State), TableInv s →
    let r := s.steering.slips.get w
    let t := detectSlip w s
    let r' := t.steering.slips.get w
    let u := s.steering
    let rpm := (s.capture.wheels.get w).rpm
    let other := (s.capture.wheels.get (otherWheel w)).rpm
    let isInner := (u.inner = .left ∧ w = .left) ∨ (u.inner = .right ∧ w = .right)
    let expected := if u.inner = .none then other else if isInner then other * u.ratio / 1000
      else other * 1000 / u.ratio
    let dev : Int := ((rpm : Int) - expected) * 1000 / max (expected : Int) 1
    let suspended := s.capture.v < 20 ∨ u.angleStateUsed = .fault ∨ u.lastGrant.mode = .neutral ∨
      (s.capture.wheels.get .left).state = .fault ∨ (s.capture.wheels.get .right).state = .fault
    let trigger : Prop := match u.lastGrant.mode with
      | .propel => (slipOn s : Int) ≤ dev | .retard => (slideOn s : Int) ≤ -dev | .neutral => False
    let below : Prop := match u.lastGrant.mode with
      | .propel => dev < (slipOff s : Int) | .retard => -dev < (slideOff s : Int) | .neutral => False
    let cut := fun x : Nat => x * (1000 - slipCut s) / 1000
    -- the record as a run that is not suspended forms it before it moves
    let formed := { r with expected := expected, deviation := dev }
    let kept := ∀ m, slotAt t.limits (slipSlot w m) = slotAt s.limits (slipSlot w m)
    let posted := fun m : DriveMode => postedIn t (slipSlot w m) = r'.cap ∧
      ∀ o, o ≠ m → slotAt t.limits (slipSlot w o) = slotAt s.limits (slipSlot w o)
    let withdrawn := ∀ m, slotAt t.limits (slipSlot w m) = none
    let told := fun cause : SlipCause => Told (.slip w r'.state r'.modeAt r'.cap r'.deviation cause) s t
    (t = ((s.withSteering { u with slips := u.slips.set w r' }).withLimits t.limits).withPorts t.ports ∧
      Aside s t ∧ TableInv t ∧
      ∀ n, (∀ m, n ≠ slipSlot w m) → slotAt t.limits n = slotAt s.limits n) ∧
    (suspended →
      (r.state = .normal → r' = r ∧ kept) ∧
      (r.state = .suspect → r' = { r with state := .normal, modeAt := none } ∧ kept ∧ told .suspended) ∧
      (r.state = .slipping → r' = { r with state := .recovering } ∧ kept ∧ told .suspended)) ∧
    (∀ m, ¬ suspended → driveMode? u.lastGrant.mode = some m →
      (r.state = .normal → trigger →
        r' = { formed with state := .suspect, modeAt := some m } ∧ kept ∧ told .trigger) ∧
      (r.state = .normal → ¬ trigger → r' = formed ∧ kept) ∧
      (∀ at', r.state = .suspect → r.modeAt = some at' → trigger →
        r' = { formed with state := .slipping, cap := some (cut (u.lastGrant.torque.get w)) } ∧
        posted at' ∧ told .trigger) ∧
      (r.state = .suspect → ¬ trigger →
        r' = { formed with state := .normal, modeAt := none } ∧ kept ∧ told .clear) ∧
      (∀ at' cap, r.state = .slipping → r.modeAt = some at' → r.cap = some cap → trigger →
        r' = { formed with cap := some (cut cap) } ∧ posted at') ∧
      (r.state = .slipping → ¬ trigger → ¬ below → r' = formed ∧ kept) ∧
      (r.state = .slipping → ¬ trigger → below →
        r' = { formed with state := .recovering } ∧ kept ∧ told .belowOff) ∧
      (∀ at' cap, r.state = .recovering → r.modeAt = some at' → r.cap = some cap → trigger →
        r' = { formed with state := .slipping, cap := some (cut cap) } ∧ posted at' ∧ told .trigger)) ∧
    (∀ at' cap, r.state = .recovering → r.modeAt = some at' → r.cap = some cap → suspended ∨ ¬ trigger →
      let now := if suspended then r else formed
      (cap + restoreStep s < u.lastGrant.capability.get w →
        r' = { now with cap := some (cap + restoreStep s) } ∧ posted at') ∧
      (u.lastGrant.capability.get w ≤ cap + restoreStep s →
        r' = { now with state := .normal, modeAt := none, cap := none } ∧ withdrawn ∧
        told (if suspended then .suspended else .restored)))

/-- REPORT CAB and the expiry of its lifetime (R134, R135, R136, R161, R162): bad arguments are refused; else supply
and park brake are written, the payload only at rest, when the payload ladder takes it, and held with the mark
PAYLOAD_HELD otherwise; the status is FRESH for 500 ms, and STALE with a notice when that runs out; either
event evaluates STEER. The layout of the answer is the model's (assumption log 12). -/
def Obligations.CabReportIsStoredAndExpires : Prop :=
  (∀ (f : Frame) (s : State), Taken .reportCab .c f s → TableInv s →
    let refusedWith := ∃ t, exec (.reportCab .c f) s = .next t ∧ OnlyAnswered .c s t ∧
      Answers .reportCab .c [0x14] t
    (f.args.length ≠ 4 → refusedWith) ∧
    (∀ w1 w0 sup brk : Byte, f.args = [w1, w0, sup, brk] →
      (0x02 < sup ∨ 0x01 < brk → refusedWith) ∧
      (∀ supply brake, supplyOf? sup.toNat = some supply → parkBrakeOf? brk.toNat = some brake →
        let rest := s.capture.stationary = true
        let payload := min 6000 (word16 w1 w0)
        let cab : CabStatus :=
          { payload := if rest then payload else s.steering.cab.payload, supply := supply, parkBrake := brake,
            freshness := .fresh, lifetime := some 500000 }
        let ratio := payload * 1000 / ratedPayload s
        let level : PayloadLevel := if overThreshold s 3 ≤ ratio then .over3
          else if overThreshold s 2 ≤ ratio then .over2
          else if overThreshold s 1 ≤ ratio then .over1 else .none
        let cap := match level with
          | .none => none | .over1 => some (overCap s 1) | .over2 => some (overCap s 2)
          | .over3 => some (overCap s 3)
        ∃ t, exec (.reportCab .c f) s = .next t ∧ Asked .c s t ∧
          t = (((s.withSteering t.steering).withOverload t.overload).withLimits t.limits).withPorts t.ports ∧
          t.steering = { s.steering with cab := cab, steerValue := t.steering.steerValue } ∧
          (rest → t.overload = { s.overload with
            payload := { payload := payload, ratio := ratio, level := level, cap := cap } } ∧
            (slotAt t.limits 3).map (·.value) = cap) ∧
          (¬ rest → t.overload = s.overload ∧ slotAt t.limits 3 = slotAt s.limits 3) ∧
          (s.steering.committed = true → t.steering.steerValue = smallest (steerCaps t) ∧
            (slotAt t.limits 2).map (·.value) = t.steering.steerValue) ∧
          (s.steering.committed = false → t.steering.steerValue = s.steering.steerValue) ∧
          Answers .reportCab .c (0x00 :: ((if rest then [] else [0x00]) ++ byte2 cab.payload ++
            byte1 supply.code ++ byte1 brake.code ++ byte1 0 ++ byte2 500)) t ∧
          (clampedFlag t .c = true ↔ 6000 < word16 w1 w0)))) ∧
  (∀ s : State, s.resetting = none → TableInv s → s.steering.cab.lifetime.isSome = true →
    let c := s.steering.cab
    ∃ t, exec .cabStatusLifetimeExpiry s = .next t ∧ Aside s t ∧
      t = ((s.withSteering t.steering).withLimits t.limits).withPorts t.ports ∧
      t.steering = { s.steering with cab := { c with freshness := .stale, lifetime := none },
                                     steerValue := t.steering.steerValue } ∧
      (s.steering.committed = true → t.steering.steerValue = smallest (steerCaps t) ∧
        (slotAt t.limits 2).map (·.value) = t.steering.steerValue) ∧
      (s.steering.committed = false → t.steering.steerValue = s.steering.steerValue) ∧
      ∀ q, (s.ports.recs.get q).mask.getLsbD 4 = true → unfitted s q = false →
        (s.ports.recs.get q).queue.length < 16 →
        .cabStale c.supply c.parkBrake ∈ (t.ports.recs.get q).queue)

/-! ### Overload Monitor -/

/-- REPORT DRIVE and the expiry of its lifetime (R149, R150): bad arguments are refused; else the flags and the
clamped currents are stored, FRESH for 100 ms; when that runs out the report is STALE, its values are kept, and
REPORT_STALE is offered. The layout of the answer, with its freshness byte before the lifetime, is the model's
(assumption log 12). -/
def Obligations.DriveReportIsStoredAndExpires : Prop :=
  (∀ (f : Frame) (s : State), Taken .reportDrive .i f s →
    let refusedWith := ∃ t, exec (.reportDrive .i f) s = .next t ∧ OnlyAnswered .i s t ∧
      Answers .reportDrive .i [0x14] t
    (f.args.length ≠ 6 → refusedWith) ∧
    (∀ l r l1 l0 r1 r0 : Byte, f.args = [l, r, l1, l0, r1, r0] →
      (0x01 < l ∨ 0x01 < r → refusedWith) ∧
      (l ≤ 0x01 → r ≤ 0x01 →
        let left := min 10000 (word16 l1 l0)
        let right := min 10000 (word16 r1 r0)
        ∃ t, exec (.reportDrive .i f) s = .next t ∧ Asked .i s t ∧
          t = (s.withOverload { s.overload with report :=
            { ready := ⟨l = 0x01, r = 0x01⟩, current := ⟨left, right⟩, freshness := .fresh,
              lifetime := some 100000 } }).withPorts t.ports ∧
          Answers .reportDrive .i (0x00 :: ([l, r] ++ byte2 left ++ byte2 right ++ [0x00, 0x64])) t ∧
          (clampedFlag t .i = true ↔ 10000 < word16 l1 l0 ∨ 10000 < word16 r1 r0)))) ∧
  (∀ s : State, s.resetting = none → s.overload.report.lifetime.isSome = true →
    exec .driveReportLifetimeExpiry s = .next
      (offer (.driveStale s.overload.report.ready s.overload.report.current)
        (s.withOverload { s.overload with report :=
          { s.overload.report with freshness := .stale, lifetime := none } })))

/-- The overload timer expires (R152 to R158): it restarts with 100 ms; each element's heat takes
its load and its leak, within 0..2000 τ, and θ is its whole part; a level that θ raises is taken at once, with
its notice (R160) and, on TRIP, the latch of the element's cause, and otherwise stays while its dwell timer is
kept; d follows; a motor's two THERMAL slots then hold what its level and d give; and a bank whose level or d has
changed takes the level event, of which the statement on the dwell expiry says what it does. -/
def Obligations.OverloadExpiryHeatsAndRaises : Prop :=
  ∀ s : State, s.resetting = none → s.overload.timer.isSome = true →
    let motor := fun w : Wheel =>
      if s.overload.report.freshness = .fresh then s.overload.report.current.get w * 1000 / iRated s
      else staleLoad s
    let bank := fun b : BankId =>
      if (bankOf s b).enableActive then
        (bankOf s b).dutyActive * (s.capture.link.v * s.capture.link.v) / (resistance s b * 1000) * 1000 /
          pRated s b
      else 0
    ∃ t, exec .overloadTimerExpiry s = .next t ∧ Aside s t ∧ t.capture = s.capture ∧
      t.authority = s.authority ∧ t.profile = s.profile ∧
      t.overload = { s.overload with timer := some 100000, integrators := t.overload.integrators } ∧
      (∀ e,
        let i := s.overload.integrators.get e
        let j := t.overload.integrators.get e
        let load := min 3000 (match e with
          | .ml => motor .left | .mr => motor .right | .g1 => bank .one | .g2 => bank .two)
        let heat := (max 0 (min (2000 * tau s e : Int) ((i.heat : Int) + (load * load / 1000 : Nat) -
          (i.heat / tau s e : Nat)))).toNat
        let theta := heat / tau s e
        let given : Level := if theta < warmOn s e then .normal else if theta < derateOn s e then .warm
          else if theta < tripOn s e then .derate else .trip
        let raised := i.level ≠ .trip ∧ i.level.code < given.code
        let below := (i.level = .warm ∧ theta + hysteresis s e < warmOn s e) ∨
          (i.level = .derate ∧ theta + hysteresis s e < derateOn s e)
        j.heat = heat ∧ j.theta = theta ∧ j.lastLoad = load ∧
        (raised → j.level = given ∧ j.dwell = none ∧
          (given = .trip → thermalCause e ∈ t.governor.trips) ∧
          Told (.level e given theta j.derate .rise) s t) ∧
        (¬ raised → j.level = i.level ∧
          j.dwell = if below then (if i.dwell.isSome then i.dwell else some (dwellTime s e * 1000))
            else none) ∧
        (j.level = .normal ∨ j.level = .warm → j.derate = 1000) ∧
        (j.level = .trip → j.derate = dMin s e) ∧
        (j.level = .derate → (j.derate : Int) = max (dMin s e : Int) (min 1000 (1000 -
          ((1000 : Int) - dMin s e) * ((theta : Int) - derateOn s e) / ((tripOn s e : Int) - derateOn s e))))) ∧
      (TableInv s → ∀ w, (postedIn t (thermalSlots w).1, postedIn t (thermalSlots w).2) =
        thermalPosts s (t.overload.integrators.get (motorOf w))) ∧
      ∀ b,
        let i := s.overload.integrators.get (gridOf b)
        let j := t.overload.integrators.get (gridOf b)
        (j.level = i.level ∧ j.derate = i.derate → bankOf t b = bankOf s b) ∧
        (j.level ≠ i.level ∨ j.derate ≠ i.derate →
          bankOf t b = bankOf (bankLevelEvent b j.level j.derate s) b)

/-- A dwell timer expires (R155, R156, R160): the level falls one step, d becomes 1000, the timer starts again
where the new level is WARM and θ is below its threshold, and every queue that takes LEVEL and has room holds
the notice; the other integrators and the heat stay; a motor's two THERMAL contributions are withdrawn (R157),
and a bank takes the level event (R158). That event (R122, R123) writes the level and d, works the available
power out again, asks for an open where the level enters TRIP, and makes the close test where it leaves it; the
other bank is untouched. That near a full queue the LEVEL notice still finds room, since it joins before the
ENVELOPE or BANK notices of the expiry, is the model's order (assumption log 8). -/
def Obligations.DwellExpiryLowersTheLevel : Prop :=
  (∀ (e : Element) (s : State) (lower : Level), s.resetting = none →
    let i := s.overload.integrators.get e
    i.dwell.isSome = true → (i.level = .warm ∧ lower = .normal) ∨ (i.level = .derate ∧ lower = .warm) →
    let again := lower = .warm ∧ i.theta + hysteresis s e < warmOn s e
    let lowered : Integrator := { i with level := lower, derate := 1000,
                                         dwell := if again then some (dwellTime s e * 1000) else none }
    ∃ t, exec (.dwellTimerExpiry e) s = .next t ∧ Aside s t ∧ t.capture = s.capture ∧
      t.authority = s.authority ∧ t.governor = s.governor ∧ t.profile = s.profile ∧
      t.steering = s.steering ∧ t.resolver = s.resolver ∧
      t.overload = { s.overload with integrators := s.overload.integrators.set e lowered } ∧
      (∀ w, e = motorOf w → slotAt t.limits (thermalSlots w).1 = none ∧
        slotAt t.limits (thermalSlots w).2 = none) ∧
      (∀ b, e = gridOf b → bankOf t b = bankOf (bankLevelEvent b lower 1000 s) b) ∧
      (∀ b, e ≠ gridOf b → bankOf t b = bankOf s b) ∧
      ∀ q, (s.ports.recs.get q).mask.getLsbD 5 = true → unfitted s q = false →
        (s.ports.recs.get q).queue.length < 16 →
        .level e lower i.theta 1000 .dwell ∈ (t.ports.recs.get q).queue) ∧
  (∀ (b : BankId) (level : Level) (d : Nat) (s : State),
    let k := bankOf s b
    let t := bankLevelEvent b level d s
    let seen : Bank := { k with
      levelSeen := level, derateSeen := d
      avail := if k.contactor = .closed ∧ level ≠ .trip then pRated s b * d / 1000 else 0 }
    let intoTrip := level = .trip ∧ k.levelSeen ≠ .trip
    let outOfTrip := level ≠ .trip ∧ k.levelSeen = .trip
    t = (s.withGrid { s.grid with banks := s.grid.banks.set b (bankOf t b) }).withPorts t.ports ∧ Aside s t ∧
    (intoTrip →
      (k.contactor = .closing →
        bankOf t b = { seen with
          contactor := .open, command := false, failure := none
          handshake := if s.grid.committed ∧ k.feedback then some 150000 else none } ∧
        Told (.bank b .open none k.feedback 0 .thermal) s t) ∧
      (k.contactor = .closed → bankOf t b =
        if k.openPending then seen else { seen with enableRequested := false, openPending := true }) ∧
      (k.contactor ≠ .closing → k.contactor ≠ .closed → bankOf t b = seen)) ∧
    (outOfTrip →
      let closes := s.grid.committed = true ∧ s.grid.modeSeen = .active ∧ k.contactor = .open ∧
        k.feedback = false
      (closes → bankOf t b =
          { seen with contactor := .closing, command := true, handshake := some 150000 } ∧
        Told (.bank b .closing k.failure false 0 .thermal) s t) ∧
      (¬ closes → bankOf t b = seen)) ∧
    (¬ intoTrip → ¬ outOfTrip → bankOf t b = seen))

/-- A gate result taken by link protection (R163, R164): the dump goes on from V_dump and off below V_dump − 50 and
is kept on a sense-lost gate; the runs count to 5 and to 2; LINK_OVERVOLTAGE is latched as the first reaches 5
from 4 and LINK_SENSE_LOST as the second reaches 2 from 1, and by nothing else here. At dump start every CLOSED
bank takes the dump, duty active 1000, enable active and the gate on at once; dump end clears the dump flags and
leaves the rest of a bank for its next boundary (R127). -/
def Obligations.LinkProtectionCountsItsGates : Prop :=
  (∀ (g : GateResult) (s : State),
    let k := s.overload.link
    let t := gateEvent g s
    let k' := t.overload.link
    k'.lastGate = g ∧
    (∀ v, g = .good v →
      (k.dump = false → (k'.dump = true ↔ vDump s ≤ v)) ∧
      (k.dump = true → (k'.dump = false ↔ (v : Int) < (vDump s : Int) - 50)) ∧
      (vTrip s ≤ v → k'.overRun = min 5 (k.overRun + 1)) ∧ (v < vTrip s → k'.overRun = 0) ∧
      k'.lostRun = 0) ∧
    (g = .senseLost → k'.dump = k.dump ∧ k'.overRun = 0 ∧ k'.lostRun = min 2 (k.lostRun + 1)) ∧
    (.linkOvervoltage ∈ t.governor.trips ↔
      .linkOvervoltage ∈ s.governor.trips ∨ (k.overRun = 4 ∧ k'.overRun = 5)) ∧
    (.linkSenseLost ∈ t.governor.trips ↔
      .linkSenseLost ∈ s.governor.trips ∨ (k.lostRun = 1 ∧ k'.lostRun = 2)) ∧
    (k'.dump = true → k.dump = false → t.grid.dumpOn = true) ∧
    (k'.dump = false → k.dump = true → t.grid.dumpOn = false) ∧
    (k'.dump = k.dump → t.grid.dumpOn = s.grid.dumpOn) ∧
    t.overload = { s.overload with link := k' } ∧ t.capture = s.capture ∧ t.authority = s.authority ∧
    t.profile = s.profile ∧ Aside s t ∧
    t =
      (let moved := if k'.dump ∧ ¬ k.dump then dumpStart s else if k.dump ∧ ¬ k'.dump then dumpEnd s else s
       let u := moved.withOverload { s.overload with link := k' }
       if k.overRun = 4 ∧ k'.overRun = 5 then latch .linkOvervoltage u
       else if k.lostRun = 1 ∧ k'.lostRun = 2 then latch .linkSenseLost u else u)) ∧
  (∀ s : State, GridInv s →
    let held := fun k : Bank =>
      if k.contactor = .closed then
        { k with dump := true, dutyActive := 1000, enableActive := true, gate := true, onTime := none }
      else k
    let freed := fun k : Bank => { k with dump := false }
    dumpStart s = s.withGrid { s.grid with
      dumpOn := true, banks := ⟨held s.grid.banks.one, held s.grid.banks.two⟩ } ∧
    dumpEnd s = s.withGrid { s.grid with
      dumpOn := false, banks := ⟨freed s.grid.banks.one, freed s.grid.banks.two⟩ })

/-- Every integrator's heat stays within 0..2000 × τ with θ its whole part, from the commit on; and no command but
CLEAR TRIPS and the reset sources takes an element out of TRIP (R153, R155, R159). -/
def Obligations.HeatStaysBoundedAndTripStays : Prop :=
  (∀ s t : State, HeatInv s → step s = .next t → HeatInv t) ∧
  (∀ (c : Instr) (s t : State) (e : Element), exec c s = .next t →
    (s.overload.integrators.get e).level = .trip →
    (t.overload.integrators.get e).level = .trip ∨ c = .powerOn ∨ (∃ pulse, c = .resetLine pulse) ∨
      ∃ p f, c = .clearTrips p f)

/-- Every step keeps the trip record in agreement with the causes' owners (R117, R154, R159, R168, R172, R173,
R175): an integrator is in TRIP, and a bank FAILED, exactly while its cause is latched; the TRIP contribution
stands exactly while a PROPEL-class cause does; and the first-cause record exactly while any does. -/
def Obligations.EveryStepKeepsTheTripRecord : Prop :=
  ∀ s t : State, TableInv s → GridInv s → TripInv s → step s = .next t → TripInv t

/-! ### Governor Control -/

/-- A latch (R172, R173): a cause in the set changes nothing; one that is absent joins it, the first-cause record is
written only into an empty set, and every queue that takes TRIP and has room holds the notice, with the count and
the mode after it. A DRIVE-class cause takes READY and ACTIVE to INHIBIT, with all that the change of mode brings,
and no other changes the mode; the first PROPEL-class cause of the set posts the TRIP contribution of 0 into slot
0, and no other latch changes the limit table; a GRID-class cause does nothing further. -/
def Obligations.LatchJoinsTheTripSet : Prop :=
  ∀ (c : TripCause) (s : State),
    let g := s.governor
    let t := latch c s
    (c ∈ g.trips → t = s) ∧
    (c ∉ g.trips →
      (∀ x, x ∈ t.governor.trips ↔ x ∈ g.trips ∨ x = c) ∧
      (g.trips = [] → t.governor.firstCause = some
        { cause := c, mode := g.mode, v := s.capture.v, vValid := s.capture.vValid,
          pass := s.resolver.last.pass }) ∧
      (g.trips ≠ [] → t.governor.firstCause = g.firstCause) ∧
      t.governor.mode = (if c.tripClass = .drive ∧ (g.mode = .ready ∨ g.mode = .active) then .inhibit
        else g.mode) ∧
      t.governor.authorityHeld = g.authorityHeld ∧ t.governor.resetCause = g.resetCause ∧
      (let inhibits := c.tripClass = .drive ∧ (g.mode = .ready ∨ g.mode = .active)
       let moved := changeMode .inhibit (.trip c) s
       (¬ inhibits → t.hold = s.hold ∧ t.grid = s.grid ∧ t.resolver = s.resolver ∧
        t.steering = s.steering) ∧
       (inhibits → t.hold = moved.hold ∧ t.grid = moved.grid ∧ t.resolver = moved.resolver ∧
        t.steering = moved.steering ∧ Told (.mode .inhibit g.mode (.trip c)) s t)) ∧
      (let posts := c.tripClass = .propel ∧ ∀ x, x ∈ g.trips → x.tripClass ≠ .propel
       (¬ posts → t.limits = s.limits) ∧
       (posts → TableInv s →
        (∃ order, slotAt t.limits 0 = some
          { source := .trip, kind := .propelTorque, scope := .axle, value := 0, reason := 0, order := order,
            hold := none } ∧ (slotAt s.limits 0 = none → order = s.limits.nextOrder)) ∧
        (∀ n, n ≠ 0 → slotAt t.limits n = slotAt s.limits n) ∧ TableInv t)) ∧
      t.capture = s.capture ∧ t.authority = s.authority ∧ t.overload = s.overload ∧ t.profile = s.profile ∧
      Aside s t ∧
      ∀ q, (s.ports.recs.get q).mask.getLsbD 10 = true → unfitted s q = false →
        (s.ports.recs.get q).queue.length < 16 →
        .trip c .latched t.governor.trips.length t.governor.mode ∈ (t.ports.recs.get q).queue)

/-- CLEAR TRIPS (R174, R175): refused with arguments; NONE_LATCHED with an empty set; else the causes whose
condition holds leave the set and their integrators and banks are cleared, the rest stay, the first-cause record
goes with the last cause, the mode leaves INHIBIT when no DRIVE-class cause is left, and the answer is OK or
PARTIAL with what was cleared and what remains. The layout of the answer, and the order of the causes in it, are
the model's (assumption log 12 and 40). -/
def Obligations.ClearTripsClearsWhatMayClear : Prop :=
  ∀ (p : Port) (f : Frame) (s : State), Taken .clearTrips p f s →
    let g := s.governor
    let cool := fun e : Element =>
      decide ((s.overload.integrators.get e).theta + hysteresis s e < warmOn s e)
    let opens := fun b : BankId => (bankOf s b).failure != some .welded || !(bankOf s b).feedback
    let clears := fun c : TripCause => match c with
      | .linkOvervoltage => decide (s.capture.link.v < vDump s) && s.capture.stationary
      | .linkSenseLost => decide (s.capture.link.state = .ok) && s.capture.stationary
      | .speedSenseLost => decide (s.capture.wheels.left.state ≠ .fault ∨ s.capture.wheels.right.state ≠ .fault)
      | .motorLThermal => cool .ml | .motorRThermal => cool .mr
      | .grid1Thermal => cool .g1 | .grid2Thermal => cool .g2
      | .grid1Contactor => opens .one | .grid2Contactor => opens .two
    let stay := g.trips.filter fun c => !clears c
    let gone := g.trips.filter clears
    (f.args ≠ [] → ∃ t, exec (.clearTrips p f) s = .next t ∧ OnlyAnswered p s t ∧
      Answers .clearTrips p [0x14] t) ∧
    (f.args = [] → g.trips = [] → ∃ t, exec (.clearTrips p f) s = .next t ∧ OnlyAnswered p s t ∧
      Answers .clearTrips p (0x03 :: (firstCauseBytes g.firstCause ++ byte1 g.mode.code)) t) ∧
    (f.args = [] → g.trips ≠ [] → ∃ t, exec (.clearTrips p f) s = .next t ∧ Asked p s t ∧
      t.governor.trips = stay ∧ t.governor.firstCause = (if stay = [] then none else g.firstCause) ∧
      t.governor.mode = (if g.mode = .inhibit ∧ ∀ c, c ∈ stay → c.tripClass ≠ .drive then
        (if g.authorityHeld then .active else .ready) else g.mode) ∧
      t.governor.authorityHeld = g.authorityHeld ∧ t.governor.resetCause = g.resetCause ∧
      t.capture = s.capture ∧ t.authority = s.authority ∧ t.profile = s.profile ∧
      t.overload = { s.overload with integrators := t.overload.integrators } ∧
      (∀ e, (t.overload.integrators.get e).heat = (s.overload.integrators.get e).heat ∧
        (t.overload.integrators.get e).theta = (s.overload.integrators.get e).theta ∧
        (thermalCause e ∈ gone → (t.overload.integrators.get e).level = .normal ∧
          (t.overload.integrators.get e).derate = 1000) ∧
        (thermalCause e ∉ gone → t.overload.integrators.get e = s.overload.integrators.get e)) ∧
      (∀ b, contactorCause b ∈ gone → (bankOf s b).contactor = .failed →
        (bankOf t b).failure = none ∧ ((bankOf t b).contactor = .open ∨ (bankOf t b).contactor = .closing)) ∧
      Answers .clearTrips p ((if stay = [] then 0x00 else 0x01) :: ((gone.map fun c => byte1 c.code).flatten ++
        (stay.map fun c => byte1 c.code ++ byte1 c.tripClass.code).flatten ++
        firstCauseBytes t.governor.firstCause ++ byte1 t.governor.mode.code)) t)

/-- Every step keeps the governor mode in agreement with what follows it and what it follows (R168, R169, R170,
R173): CONFIG lasts until the commit; the Grade Hold and Grid Drive Units have seen it; INHIBIT stands exactly
while a DRIVE-class cause is latched; and authority seen is the authority record's, not in READY and always in
ACTIVE. And what a change of mode does: its MODE notice; out of ACTIVE the forced record (R87), DEMAND, CAP and the
effort released and both brake timers stopped (R99), a CLOSING bank opened and an open asked of a CLOSED one (R112,
R114); into ACTIVE the no-retard timer (R104) and the close test, or a pending open taken back (R111); the brake
request line evaluated in every change (R105). That in a whole step the forced record of a release shows the line as
the step leaves it is the model's order of the two events of a release (assumption log 29). -/
def Obligations.EveryStepKeepsTheMode : Prop :=
  (∀ s t : State, ModeInv s → step s = .next t → ModeInv t) ∧
  (∀ (new : GovMode) (cause : ModeCause) (s : State), GridInv s →
    s.hold.ctx.modeSeen = s.governor.mode → s.grid.modeSeen = s.governor.mode → new ≠ s.governor.mode →
    let old := s.governor.mode
    let c := s.hold.ctx
    let b := s.hold.brake
    let last := s.resolver.last
    let t := changeMode new cause s
    let line := brakeAsserted new t.hold.brake.overspeed b.noRetard
    t = (((((s.withGovernor { s.governor with mode := new, previous := some old }).withHold t.hold).withResolver
      t.resolver).withGrid t.grid).withSteering t.steering).withPorts t.ports ∧ Aside s t ∧
    Told (.mode new old cause) s t ∧
    (b.asserted ≠ line → Told (.brake line t.hold.brake.overspeed b.noRetard new) s t) ∧
    (old = .active →
      t.resolver = { s.resolver with
        pass := last.pass, previous := last, last := forcedOf last s.resolver.axle line } ∧
      t.steering = { s.steering with lastGrant := ⟨.neutral, ⟨0, 0⟩, ⟨0, 0⟩, last.pass⟩ } ∧
      t.hold = {
        ctx := { c with demandSource := none, capSource := none, setpoint := c.staleSource, integral := 0
                        bHold := 0, lastError := 0, modeSeen := new
                        lastGrant := ⟨.neutral, .zero, .zero, last.pass⟩ }
        brake := { b with overspeed := b.overspeed && c.staleSource.isSome, overspeedTimer := none
                          noRetardTimer := none, asserted := line } } ∧
      t.grid = { s.grid with modeSeen := new, lastPass := last.pass, lastMode := .neutral, pReq := 0, pDis := 0
                             vUsed := s.capture.link.v, banks := t.grid.banks } ∧
      ∀ n,
        let k : Bank := { bankOf s n with share := 0, dutyPending := 0 }
        (k.contactor = .closing → bankOf t n =
            { k with contactor := .open, command := false,
                     handshake := if k.feedback then some 150000 else none } ∧
          Told (.bank n .open none k.feedback 0 .mode) s t) ∧
        (k.contactor = .closed → bankOf t n =
          if k.openPending then k else { k with enableRequested := false, openPending := true }) ∧
        (k.contactor ≠ .closing → k.contactor ≠ .closed → bankOf t n = k)) ∧
    (old ≠ .active →
      t.resolver = s.resolver ∧ t.steering = s.steering ∧ t.hold.ctx = { c with modeSeen := new } ∧
      t.hold.brake = { b with noRetardTimer := t.hold.brake.noRetardTimer, asserted := line } ∧
      KeptTimer (new = .active ∧ c.lastGrant.mode = .retard ∧ b.gridSeen = 0) b.noRetard 200000
        b.noRetardTimer t.hold.brake.noRetardTimer ∧
      t.grid = { s.grid with modeSeen := new, banks := t.grid.banks } ∧
      ∀ n,
        let k := bankOf s n
        let closes := new = .active ∧ s.grid.committed = true ∧ k.contactor = .open ∧ k.feedback = false ∧
          k.levelSeen ≠ .trip
        let cancels := new = .active ∧ k.contactor = .closed ∧ k.openPending = true ∧ k.levelSeen ≠ .trip
        (closes → bankOf t n = { k with contactor := .closing, command := true, handshake := some 150000 } ∧
          Told (.bank n .closing none false 0 .mode) s t) ∧
        (cancels → bankOf t n = { k with openPending := false, enableRequested := true }) ∧
        (¬ closes → ¬ cancels → bankOf t n = k))) ∧
  (∀ s t : State, ModeInv s → GridInv s → step s = .next t → t.resetting = none →
    (s.governor.mode = .active → t.governor.mode ≠ .active →
      t.resolver.last = forcedOf s.resolver.last s.resolver.axle t.hold.brake.asserted ∧
      t.resolver.previous = s.resolver.last ∧ t.hold.ctx.demandSource = none ∧
      t.hold.ctx.capSource = none ∧ t.hold.ctx.bHold = 0 ∧
      ∀ n, (bankOf t n).contactor ≠ .closing ∧
        ((bankOf t n).contactor = .closed → (bankOf t n).openPending = true)) ∧
    (s.governor.mode ≠ .active → t.governor.mode = .active → ∀ n, (bankOf t n).levelSeen ≠ .trip →
      ((bankOf t n).contactor = .open → (bankOf t n).feedback = true) ∧ (bankOf t n).openPending = false))

/-! ### Profile Store -/

/-- PROFILE WRITE (R180): LOCKED once committed; BAD_VALUE for a wrong length, section or index; else the one entry
takes the value clamped to its range, nothing else changes, and the answer carries the section, the index and the
value as stored, in the width its range needs (assumption log 12). -/
def Obligations.ProfileWriteStoresOneEntry : Prop :=
  ∀ (f : Frame) (s : State), Taken .profileWrite .i f s →
    let refusedWith := fun code : Byte => ∃ t, exec (.profileWrite .i f) s = .next t ∧ OnlyAnswered .i s t ∧
      Answers .profileWrite .i [code] t
    (s.profile.committed = true → refusedWith 0x1E) ∧
    (s.profile.committed = false → f.args.length ≠ 6 → refusedWith 0x14) ∧
    (∀ sec idx b3 b2 b1 b0 : Byte, s.profile.committed = false → f.args = [sec, idx, b3, b2, b1, b0] →
      (13 ≤ sec.toNat ∨ (profileSpec.getD sec.toNat []).length ≤ idx.toNat → refusedWith 0x14) ∧
      (∀ spec : EntrySpec, entrySpec? sec.toNat idx.toNat = some spec →
        s.profile.sections.map List.length = profileSpec.map List.length →
        let stored : Entry := match spec with
          | .scalar lo hi => .scalar (max lo (min hi (word32 b3 b2 b1 b0)))
          | .count => .scalar (max 2 (min 16 (word32 b3 b2 b1 b0)))
          | .point => .point (min 4000 (word16 b3 b2)) (min 32000 (word16 b1 b0))
        ∃ t, exec (.profileWrite .i f) s = .next t ∧ Asked .i s t ∧
          t = (s.withProfile t.profile).withPorts t.ports ∧ t.profile.committed = false ∧
          t.profile.entry sec.toNat idx.toNat = stored ∧
          (∀ m n : Nat, (m, n) ≠ (sec.toNat, idx.toNat) → t.profile.entry m n = s.profile.entry m n) ∧
          Answers .profileWrite .i (0x00 :: sec :: idx :: entryBytes (some spec) stored) t ∧
          (clampedFlag t .i = true ↔ stored ≠ match spec with
            | .scalar _ _ => .scalar (word32 b3 b2 b1 b0) | .count => .scalar (word32 b3 b2 b1 b0)
            | .point => .point (word16 b3 b2) (word16 b1 b0))))

/-- COMMIT PROFILE (R181, R182, R183): LOCKED once committed; BAD_VALUE with arguments; PROFILE_INVALID with the place
and the check where a check of R182 fails, the first in the order of section, index and check; else the flag is set,
every block starts its timers, READY is entered, GRID stands at 0 in slot 1, the brake line is released and the
answer is OK with the mode. That a breakpoint count out of range fails COUNT and not RANGE is the model's reading
(assumption log 18). -/
def Obligations.CommitProfileStartsEveryBlock : Prop :=
  (∀ p : Profile,
    (profileFailure p = none ↔ ∀ sec idx check, ¬ Fails p sec idx check) ∧
    (∀ sec idx check, profileFailure p = some (sec, idx, check) ↔ Fails p sec idx check ∧
      ∀ sec' idx' check', Fails p sec' idx' check' →
        sec < sec' ∨ (sec = sec' ∧ (idx < idx' ∨ (idx = idx' ∧ check.code ≤ check'.code))))) ∧
  (∀ (f : Frame) (s : State), Taken .commitProfile .i f s →
    let refusedWith := fun bytes : List Byte => ∃ t, exec (.commitProfile .i f) s = .next t ∧
      OnlyAnswered .i s t ∧ Answers .commitProfile .i bytes t
    (s.profile.committed = true → refusedWith [0x1E]) ∧
    (s.profile.committed = false → f.args ≠ [] → refusedWith [0x14]) ∧
    (s.profile.committed = false → f.args = [] → ∀ sec idx check,
      profileFailure s.profile = some (sec, idx, check) →
      refusedWith (0x1F :: (byte1 sec ++ byte1 idx ++ byte1 check.code))) ∧
    (s.profile.committed = false → f.args = [] → profileFailure s.profile = none →
      ModeInv s → BrakeLineInv s → HoldInv s → GridInv s → TableInv s →
      ∃ t, exec (.commitProfile .i f) s = .next t ∧ Asked .i s t ∧
        t.profile = { s.profile with committed := true } ∧
        t.governor = { s.governor with mode := .ready, previous := some .config } ∧
        t.authority = s.authority ∧
        t.capture = { s.capture with wheels :=
          ⟨{ s.capture.wheels.left with edgeTimer := some (stationaryTimeout s * 1000) },
           { s.capture.wheels.right with edgeTimer := some (stationaryTimeout s * 1000) }⟩ } ∧
        t.resolver = { s.resolver with timer := some 5000 } ∧
        t.hold.ctx = { s.hold.ctx with timer := some 20000, modeSeen := .ready } ∧
        t.hold.brake.asserted = false ∧ t.hold.brake.gridSeen = 0 ∧
        t.grid.committed = true ∧ t.grid.modeSeen = .ready ∧ t.grid.gridValue = 0 ∧
        (∀ b, bankOf t b = { bankOf s b with
          boundary := some (match b with | .one => chopperPeriod s | .two => chopperPeriod s / 2)
          handshake := if (bankOf s b).feedback then some 150000 else (bankOf s b).handshake }) ∧
        (slotAt t.limits 1).map (·.value) = some 0 ∧
        t.steering = { s.steering with committed := true, timer := some 20000,
                                       steerValue := smallest (steerCaps s) } ∧
        (slotAt t.limits 2).map (·.value) = smallest (steerCaps s) ∧
        (∀ n, n ≠ 1 → n ≠ 2 → slotAt t.limits n = slotAt s.limits n) ∧
        t.overload = { s.overload with timer := some 100000, integrators := t.overload.integrators } ∧
        (∀ e, t.overload.integrators.get e = { s.overload.integrators.get e with
          heat := thetaInit s e * tau s e, theta := thetaInit s e }) ∧
        Answers .commitProfile .i [0x00, 0x01] t))

/-- From the commit to the next reset the profile does not change (R184): a step from a committed profile leaves it
as it is, or begins a reset, which empties it (R186). Every step keeps the profile's sections and entries as R179
lists them, each entry 0 or in its range (R180), and a committed profile past every check of R182. -/
def Obligations.CommittedProfileIsFrozen : Prop :=
  (∀ s t : State, s.profile.committed = true → step s = .next t →
    t.profile = s.profile ∨ (t.resetting.isSome = true ∧ t.profile = .reset)) ∧
  (∀ s t : State, ProfileInv s → step s = .next t → ProfileInv t)

/-! ### Master Port Unit -/

/-- The port's own answers (R187 to R191, R196): in a transaction the last response is clocked out, then 00H; a
short one is TRUNCATED with echo FFH, before the strap is looked at; on an unfitted port S every request but NOP is
NOT_FITTED, a code outside the table too; else such a code is UNKNOWN_REQUEST, a request the port may not make
NOT_PERMITTED; and a NOP gives the last response again with a fresh status byte and REPEAT. Nothing but that port's
response changes, and the status byte holds what R196 gives it; that a NOP's answer has CLAMPED clear is the model's
(assumption log 24). A transaction begun before the last reset ended is discarded, whatever it carries. -/
def Obligations.PortAnswersForItself : Prop :=
  ∀ (p : Port) (f : Frame) (s : State), s.resetting = none →
    let old := (s.ports.recs.get p).response
    let status := fun t : State => (t.ports.recs.get p).response.status
    let flags := fun (t : State) (again clamped : Bool) =>
      (status t).extractLsb' 0 2 = BitVec.ofNat 2 s.governor.mode.code ∧
      ((status t).getLsbD 2 = true ↔
        (p = .c ∧ s.authority.record.holder = some .cab) ∨
          (p = .s ∧ s.authority.record.holder = some .supervisor)) ∧
      ((status t).getLsbD 3 = true ↔ (s.ports.recs.get p).queue ≠ []) ∧
      (status t).getLsbD 4 = (s.ports.recs.get p).overflow ∧ (status t).getLsbD 5 = again ∧
      (status t).getLsbD 6 = clamped ∧ (status t).getLsbD 7 = true
    let clocks := fun (n : Nat) (t : State) => (t.ports.recs.get p).sdo =
      ((old.status :: old.echo :: BitVec.ofNat 8 old.result.length :: old.result) ++
        List.replicate n 0x00).take n
    let answers := fun (c : Instr) (n : Nat) (echo code : Byte) =>
      ∃ t, exec c s = .next t ∧ OnlyAnswered p s t ∧ (t.ports.recs.get p).response.echo = echo ∧
        (t.ports.recs.get p).response.result = [code] ∧ flags t false false ∧ clocks n t
    let bytes := 2 + f.args.length + f.extra.length
    (f.early = false →
      (∃ t, exec (.nop p f) s = .next t ∧ OnlyAnswered p s t ∧ flags t true false ∧ clocks bytes t ∧
        (t.ports.recs.get p).response.echo = old.echo ∧
        (t.ports.recs.get p).response.result = old.result) ∧
      (∀ code, isKnownCode code = false →
        answers (.unknownRequest p code f) bytes code
          (if p = .s ∧ s.ports.strap = .notFitted then 0x11 else 0x13)) ∧
      (p = .s → s.ports.strap = .notFitted →
        ∀ r : Request, r ≠ .nop → answers (r.command p f) bytes r.code 0x11) ∧
      (¬ (p = .s ∧ s.ports.strap = .notFitted) →
        (p = .i → answers (.claim p f) bytes 0x20 0x10 ∧ answers (.release p f) bytes 0x21 0x10 ∧
          answers (.submitDemand p f) bytes 0x24 0x10) ∧
        (p ≠ .s → answers (.yieldAuthority p f) bytes 0x22 0x10 ∧
          answers (.withdrawBid p f) bytes 0x23 0x10) ∧
        (p ≠ .i → answers (.reportDrive p f) bytes 0x30 0x10 ∧
          answers (.profileWrite p f) bytes 0x40 0x10 ∧ answers (.commitProfile p f) bytes 0x41 0x10) ∧
        (p ≠ .c → answers (.reportCab p f) bytes 0x31 0x10) ∧
        (p = .s → answers (.clearTrips p f) bytes 0x50 0x10))) ∧
    (∀ sent : List Byte, isTruncated sent = true →
      answers (.truncated p sent false) sent.length 0xFF 0x12) ∧
    (f.early = true →
      (∀ r : Request, exec (r.command p f) s = .next s) ∧
      (∀ code, isKnownCode code = false → exec (.unknownRequest p code f) s = .next s)) ∧
    (∀ sent : List Byte, isTruncated sent = true → exec (.truncated p sent true) s = .next s)

/-- Reads change nothing but the asking port's response (R41, R89, R185, R192): READ RECORD answers OK with the
record its code names, and BAD_VALUE for an unknown code, a wrong length or a party above 01H; GRANT is the last
record and the one before it, in 25 bytes each. READ TABLE is BAD_VALUE for a wrong length, selector or start;
of the limit table it gives the slots asked for, the counts and the pool's count, and of a profile section the
entries asked for and the committed flag; a count it has to change sets CLAMPED. The layout of the records and
of the entries, where R197 does not give it, is the model's, and so are the order of the parts in a record of
two owners, the code of a value that is on or off, the bytes of a stopped brake timer and of the last gate, the
order of the causes, and the handover window of AUTHORITY before the commit (assumption log 12, 34, 36, 39, 41,
40 and 30). -/
def Obligations.ReadsChangeNothing : Prop :=
  ∀ (p : Port) (f : Frame) (s : State),
    (Taken .readRecord p f s →
      let reads := fun (bytes : List Byte) => ∃ t, exec (.readRecord p f) s = .next t ∧ OnlyAnswered p s t ∧
        Answers .readRecord p bytes t ∧ clampedFlag t p = false
      let record := fun bytes : List Byte => reads (0x00 :: bytes)
      (f.args = [0x00] → record (envelopeRecord s)) ∧
      (f.args = [0x01] → record (authorityRecord s)) ∧
      (f.args = [0x02, 0x00] → record (demandRecord .cab s)) ∧
      (f.args = [0x02, 0x01] → record (demandRecord .supervisor s)) ∧
      (f.args = [0x03] → record (grantBytes s.resolver.last ++ grantBytes s.resolver.previous) ∧
        (grantBytes s.resolver.last).length = 25) ∧
      (f.args = [0x04] → record (wheelsRecord s)) ∧
      (f.args = [0x05] → record (steeringPart s.steering ++ angleBytes s.capture.angle)) ∧
      (f.args = [0x06] → record (linkRecord s)) ∧
      (f.args = [0x07] → record (banksRecord s)) ∧
      (f.args = [0x08] → record (thermalRecord s)) ∧
      (f.args = [0x09] → record (payloadRecord s)) ∧
      (f.args = [0x0A] → record (holdRecord s)) ∧
      (f.args = [0x0B] → record (brakeRecord s)) ∧
      (f.args = [0x0C] → record (tripsRecord s)) ∧
      (f.args = [0x0D] → record (byte1 s.governor.mode.code ++ byte1? (s.governor.previous.map GovMode.code) ++
        byteFlag s.governor.authorityHeld ++ byteFlag s.profile.committed ++
        byte1 s.governor.resetCause.code ++ byte1 (strapCode s.ports.strap))) ∧
      (f.args = [0x0E] → record (byte1 (s.ports.recs.get p).queue.length ++
        byte1 (s.ports.recs.get p).threshold ++ byte2 (s.ports.recs.get p).mask.toNat ++
        byteFlag (s.ports.recs.get p).overflow ++ byteFlag (s.ports.recs.get p).lineActive)) ∧
      (∀ bytes, recordAsked? p f.args s = some bytes → record bytes) ∧
      (recordAsked? p f.args s = none → reads [0x14]) ∧
      (recordAsked? p f.args s = none ↔ ¬ (∃ code : Byte, f.args = [code] ∧ code ≤ 0x0E ∧ code ≠ 0x02) ∧
        ¬ ∃ party : Byte, f.args = [0x02, party] ∧ party ≤ 0x01)) ∧
    (Taken .readTable p f s →
      let reads := fun (bytes : List Byte) (clamped : Prop) => ∃ t, exec (.readTable p f) s = .next t ∧
        OnlyAnswered p s t ∧ Answers .readTable p bytes t ∧ (clampedFlag t p = true ↔ clamped)
      (f.args.length ≠ 3 → reads [0x14] False) ∧
      (∀ sel start count, f.args = [sel, start, count] →
        let taken := fun size : Nat => min (max 1 (min 8 count.toNat)) (size - start.toNat)
        (sel = 0xFF →
          (0x1F < start → reads [0x14] False) ∧
          (start ≤ 0x1F → reads (0x00 ::
            (slotsBytes ((List.range (taken 32)).map fun k => slotAt s.limits (start.toNat + k)) ++
              [BitVec.ofNat 8 s.limits.counts.i, BitVec.ofNat 8 s.limits.counts.c,
               BitVec.ofNat 8 s.limits.counts.s, BitVec.ofNat 8 s.limits.poolCount]))
            (taken 32 ≠ count.toNat))) ∧
        (sel ≠ 0xFF → 0x0C < sel → reads [0x14] False) ∧
        (sel ≤ 0x0C →
          let size := (profileSpec.getD sel.toNat []).length
          (size ≤ start.toNat → reads [0x14] False) ∧
          (start.toNat < size → reads (0x00 ::
            (((List.range (taken size)).map fun k => entryBytes (entrySpec? sel.toNat (start.toNat + k))
              (s.profile.entry sel.toNat (start.toNat + k))).flatten ++ byteFlag s.profile.committed))
            (taken size ≠ count.toNat)))))

/-- TAKE NOTICES (R194, R195): BAD_VALUE for a wrong length; else the oldest entries, as many as the count clamped to
1..4 allows, leave the port's own queue and are returned, with one entry of kind NONE where it was empty;
overflow goes with the last entry; and the line is evaluated again. -/
def Obligations.TakeNoticesRemovesTheOldest : Prop :=
  ∀ (p : Port) (f : Frame) (s : State), Taken .takeNotices p f s →
    (f.args.length ≠ 1 → ∃ t, exec (.takeNotices p f) s = .next t ∧ OnlyAnswered p s t ∧
      Answers .takeNotices p [0x14] t) ∧
    (∀ c : Byte, f.args = [c] →
      let r := s.ports.recs.get p
      let count := max 1 (min 4 c.toNat)
      let k := min count r.queue.length
      ∃ t, exec (.takeNotices p f) s = .next t ∧ Asked p s t ∧ t = s.withPorts t.ports ∧
        (∀ q, q ≠ p → t.ports.recs.get q = s.ports.recs.get q) ∧
        (t.ports.recs.get p).queue = r.queue.drop k ∧
        ((t.ports.recs.get p).overflow = true ↔ r.overflow = true ∧ count < r.queue.length) ∧
        ((t.ports.recs.get p).lineActive = true ↔ r.threshold ≤ r.queue.length - k ∧
          ¬ (p = .s ∧ s.ports.strap = .notFitted)) ∧
        Answers .takeNotices p (0x00 :: BitVec.ofNat 8 k :: BitVec.ofNat 8 (r.queue.length - k) ::
          (if r.queue = [] then List.replicate 10 0x00
           else ((r.queue.take k).map Notice.wire).flatten)) t ∧
        (clampedFlag t p = true ↔ count ≠ c.toNat))

/-- SET NOTICE MASK and SET NOTICE THRESHOLD (R195): a value outside the range or a wrong length is refused and
changes nothing; else the mask or the threshold takes it, the line is active exactly while the queue count
reaches the threshold on a fitted port, and the answer carries both as they stand. That a SET NOTICE THRESHOLD
of a wrong length is refused BAD_VALUE is the model's choice (assumption log 38). -/
def Obligations.NoticeSettingsAreReplaced : Prop :=
  ∀ (p : Port) (f : Frame) (s : State), QueueInv s →
    let r := s.ports.recs.get p
    let settled := fun (q : Request) (mask : BitVec 12) (threshold : Nat) (t : State) =>
      t = s.withPorts t.ports ∧ t.ports.strap = s.ports.strap ∧
      (∀ o, o ≠ p → t.ports.recs.get o = s.ports.recs.get o) ∧
      (t.ports.recs.get p).mask = mask ∧ (t.ports.recs.get p).threshold = threshold ∧
      (t.ports.recs.get p).queue = r.queue ∧ (t.ports.recs.get p).overflow = r.overflow ∧
      ((t.ports.recs.get p).lineActive = true ↔ threshold ≤ r.queue.length ∧
        ¬ (p = .s ∧ s.ports.strap = .notFitted)) ∧
      Answers q p (0x00 :: (byte2 mask.toNat ++ byte1 threshold)) t
    (Taken .setNoticeMask p f s →
      (f.args.length ≠ 2 ∨ (∃ hi lo, f.args = [hi, lo] ∧ 0x0F < hi) →
        ∃ t, exec (.setNoticeMask p f) s = .next t ∧ OnlyAnswered p s t ∧
          Answers .setNoticeMask p [0x14] t) ∧
      (∀ hi lo, f.args = [hi, lo] → hi ≤ 0x0F →
        ∃ t, exec (.setNoticeMask p f) s = .next t ∧
          settled .setNoticeMask (BitVec.ofNat 12 (hi.toNat * 256 + lo.toNat)) r.threshold t)) ∧
    (Taken .setNoticeThreshold p f s →
      (f.args.length ≠ 1 ∨ (∃ n, f.args = [n] ∧ (n = 0x00 ∨ 0x10 < n)) →
        ∃ t, exec (.setNoticeThreshold p f) s = .next t ∧ OnlyAnswered p s t ∧
          Answers .setNoticeThreshold p [0x14] t) ∧
      (∀ n : Byte, f.args = [n] → 0x01 ≤ n → n ≤ 0x10 →
        ∃ t, exec (.setNoticeThreshold p f) s = .next t ∧
          settled .setNoticeThreshold r.mask n.toNat t))

/-- A notice offered to the ports (R39, R193, R195): a port does not take one outside its mask, on port S with the strap
NOT_FITTED, or a LIMIT_EXPIRED of another owner; else an ENVELOPE entry of the same field takes the new contents
in its place, a full queue drops the notice and sets overflow, and otherwise it joins as the newest; the line
follows; and nothing else of the state changes. -/
def Obligations.OfferedNoticeJoinsTheQueue : Prop :=
  ∀ (n : Notice) (s : State),
    let t := offer n s
    t = s.withPorts t.ports ∧ t.ports.strap = s.ports.strap ∧
    ∀ p,
      let r := s.ports.recs.get p
      let r' := t.ports.recs.get p
      let elsewhere := ∃ slot c, n = .limitExpired slot c ∧ sourcePort c.source ≠ some p
      let refused := r.mask.getLsbD (n.kind - 1) = false ∨ (p = .s ∧ s.ports.strap = .notFitted) ∨ elsewhere
      let waiting := ∃ f old new, n = Notice.envelope f new ∧ Notice.envelope f old ∈ r.queue
      (refused → r' = r) ∧
      (¬ refused →
        r' = { r with queue := r'.queue, overflow := r'.overflow, lineActive := r'.lineActive } ∧
        (waiting → r'.queue.length = r.queue.length ∧ r'.overflow = r.overflow ∧
          ∀ (i : Nat) (f : EnvField) new, n = Notice.envelope f new →
            (∀ old, r.queue[i]? = some (Notice.envelope f old) → r'.queue[i]? = some n) ∧
            (∀ m : Notice, r.queue[i]? = some m → (∀ old, m ≠ .envelope f old) → r'.queue[i]? = some m)) ∧
        (¬ waiting → 16 ≤ r.queue.length → r'.queue = r.queue ∧ r'.overflow = true) ∧
        (¬ waiting → r.queue.length < 16 → r'.queue = r.queue ++ [n] ∧ r'.overflow = r.overflow) ∧
        (r'.lineActive = true ↔ r.threshold ≤ r'.queue.length))

/-- Every step keeps the notice queues (R193, R195): at most 16 entries, at most one ENVELOPE entry of a field, a
threshold of 1..16, a line that agrees with the count, and nothing queued on an unfitted port S. And every change
that raises a notice has raised it, with what the notice carries, at every port that takes its kind: a full queue
sets its overflow flag instead (R38, R55, R59, R105, R118, R135, R145, R150, R160, R162, R170, R172). -/
def Obligations.EveryStepKeepsTheNoticeQueues : Prop :=
  (∀ s t : State, QueueInv s → step s = .next t → QueueInv t) ∧
  (∀ s t : State, step s = .next t → s.resetting = none → t.resetting = none → ChangesTold s t)

end
end

