-- ==== Sys2Proof/Laws/State.lean ====
section
/-! SUPPORT. The small lemmas of the state's setters: one per field per setter, and what a setter over a
setter is; then the reads and writes of one of a pair. -/

namespace Sys2Proof.Machine

variable (s : State)

/-! ### withPending -/

@[simp] theorem State.withPending_pending (x : List Instr) : (s.withPending x).pending = x := rfl
@[simp] theorem State.withPending_resetting (x : List Instr) : (s.withPending x).resetting = s.resetting := rfl
@[simp] theorem State.withPending_capture (x : List Instr) : (s.withPending x).capture = s.capture := rfl
@[simp] theorem State.withPending_limits (x : List Instr) : (s.withPending x).limits = s.limits := rfl
@[simp] theorem State.withPending_authority (x : List Instr) : (s.withPending x).authority = s.authority := rfl
@[simp] theorem State.withPending_resolver (x : List Instr) : (s.withPending x).resolver = s.resolver := rfl
@[simp] theorem State.withPending_hold (x : List Instr) : (s.withPending x).hold = s.hold := rfl
@[simp] theorem State.withPending_grid (x : List Instr) : (s.withPending x).grid = s.grid := rfl
@[simp] theorem State.withPending_steering (x : List Instr) : (s.withPending x).steering = s.steering := rfl
@[simp] theorem State.withPending_overload (x : List Instr) : (s.withPending x).overload = s.overload := rfl
@[simp] theorem State.withPending_governor (x : List Instr) : (s.withPending x).governor = s.governor := rfl
@[simp] theorem State.withPending_profile (x : List Instr) : (s.withPending x).profile = s.profile := rfl
@[simp] theorem State.withPending_ports (x : List Instr) : (s.withPending x).ports = s.ports := rfl
@[simp] theorem State.withPending_draws (x : List Instr) : (s.withPending x).draws = s.draws := rfl
@[simp] theorem State.withPending_twice (x y : List Instr) :
    (s.withPending x).withPending y = s.withPending y := rfl
@[simp] theorem State.withPending_self : s.withPending s.pending = s := rfl

/-! ### withResetting -/

@[simp] theorem State.withResetting_pending (x : Option ResetCause) : (s.withResetting x).pending = s.pending := rfl
@[simp] theorem State.withResetting_resetting (x : Option ResetCause) : (s.withResetting x).resetting = x := rfl
@[simp] theorem State.withResetting_capture (x : Option ResetCause) : (s.withResetting x).capture = s.capture := rfl
@[simp] theorem State.withResetting_limits (x : Option ResetCause) : (s.withResetting x).limits = s.limits := rfl
@[simp] theorem State.withResetting_authority (x : Option ResetCause) : (s.withResetting x).authority = s.authority := rfl
@[simp] theorem State.withResetting_resolver (x : Option ResetCause) : (s.withResetting x).resolver = s.resolver := rfl
@[simp] theorem State.withResetting_hold (x : Option ResetCause) : (s.withResetting x).hold = s.hold := rfl
@[simp] theorem State.withResetting_grid (x : Option ResetCause) : (s.withResetting x).grid = s.grid := rfl
@[simp] theorem State.withResetting_steering (x : Option ResetCause) : (s.withResetting x).steering = s.steering := rfl
@[simp] theorem State.withResetting_overload (x : Option ResetCause) : (s.withResetting x).overload = s.overload := rfl
@[simp] theorem State.withResetting_governor (x : Option ResetCause) : (s.withResetting x).governor = s.governor := rfl
@[simp] theorem State.withResetting_profile (x : Option ResetCause) : (s.withResetting x).profile = s.profile := rfl
@[simp] theorem State.withResetting_ports (x : Option ResetCause) : (s.withResetting x).ports = s.ports := rfl
@[simp] theorem State.withResetting_draws (x : Option ResetCause) : (s.withResetting x).draws = s.draws := rfl
@[simp] theorem State.withResetting_twice (x y : Option ResetCause) :
    (s.withResetting x).withResetting y = s.withResetting y := rfl
@[simp] theorem State.withResetting_self : s.withResetting s.resetting = s := rfl

/-! ### withCapture -/

@[simp] theorem State.withCapture_pending (x : Capture) : (s.withCapture x).pending = s.pending := rfl
@[simp] theorem State.withCapture_resetting (x : Capture) : (s.withCapture x).resetting = s.resetting := rfl
@[simp] theorem State.withCapture_capture (x : Capture) : (s.withCapture x).capture = x := rfl
@[simp] theorem State.withCapture_limits (x : Capture) : (s.withCapture x).limits = s.limits := rfl
@[simp] theorem State.withCapture_authority (x : Capture) : (s.withCapture x).authority = s.authority := rfl
@[simp] theorem State.withCapture_resolver (x : Capture) : (s.withCapture x).resolver = s.resolver := rfl
@[simp] theorem State.withCapture_hold (x : Capture) : (s.withCapture x).hold = s.hold := rfl
@[simp] theorem State.withCapture_grid (x : Capture) : (s.withCapture x).grid = s.grid := rfl
@[simp] theorem State.withCapture_steering (x : Capture) : (s.withCapture x).steering = s.steering := rfl
@[simp] theorem State.withCapture_overload (x : Capture) : (s.withCapture x).overload = s.overload := rfl
@[simp] theorem State.withCapture_governor (x : Capture) : (s.withCapture x).governor = s.governor := rfl
@[simp] theorem State.withCapture_profile (x : Capture) : (s.withCapture x).profile = s.profile := rfl
@[simp] theorem State.withCapture_ports (x : Capture) : (s.withCapture x).ports = s.ports := rfl
@[simp] theorem State.withCapture_draws (x : Capture) : (s.withCapture x).draws = s.draws := rfl
@[simp] theorem State.withCapture_twice (x y : Capture) :
    (s.withCapture x).withCapture y = s.withCapture y := rfl
@[simp] theorem State.withCapture_self : s.withCapture s.capture = s := rfl

/-! ### withLimits -/

@[simp] theorem State.withLimits_pending (x : LimitUnit) : (s.withLimits x).pending = s.pending := rfl
@[simp] theorem State.withLimits_resetting (x : LimitUnit) : (s.withLimits x).resetting = s.resetting := rfl
@[simp] theorem State.withLimits_capture (x : LimitUnit) : (s.withLimits x).capture = s.capture := rfl
@[simp] theorem State.withLimits_limits (x : LimitUnit) : (s.withLimits x).limits = x := rfl
@[simp] theorem State.withLimits_authority (x : LimitUnit) : (s.withLimits x).authority = s.authority := rfl
@[simp] theorem State.withLimits_resolver (x : LimitUnit) : (s.withLimits x).resolver = s.resolver := rfl
@[simp] theorem State.withLimits_hold (x : LimitUnit) : (s.withLimits x).hold = s.hold := rfl
@[simp] theorem State.withLimits_grid (x : LimitUnit) : (s.withLimits x).grid = s.grid := rfl
@[simp] theorem State.withLimits_steering (x : LimitUnit) : (s.withLimits x).steering = s.steering := rfl
@[simp] theorem State.withLimits_overload (x : LimitUnit) : (s.withLimits x).overload = s.overload := rfl
@[simp] theorem State.withLimits_governor (x : LimitUnit) : (s.withLimits x).governor = s.governor := rfl
@[simp] theorem State.withLimits_profile (x : LimitUnit) : (s.withLimits x).profile = s.profile := rfl
@[simp] theorem State.withLimits_ports (x : LimitUnit) : (s.withLimits x).ports = s.ports := rfl
@[simp] theorem State.withLimits_draws (x : LimitUnit) : (s.withLimits x).draws = s.draws := rfl
@[simp] theorem State.withLimits_twice (x y : LimitUnit) :
    (s.withLimits x).withLimits y = s.withLimits y := rfl
@[simp] theorem State.withLimits_self : s.withLimits s.limits = s := rfl

/-! ### withAuthority -/

@[simp] theorem State.withAuthority_pending (x : AuthorityUnit) : (s.withAuthority x).pending = s.pending := rfl
@[simp] theorem State.withAuthority_resetting (x : AuthorityUnit) : (s.withAuthority x).resetting = s.resetting := rfl
@[simp] theorem State.withAuthority_capture (x : AuthorityUnit) : (s.withAuthority x).capture = s.capture := rfl
@[simp] theorem State.withAuthority_limits (x : AuthorityUnit) : (s.withAuthority x).limits = s.limits := rfl
@[simp] theorem State.withAuthority_authority (x : AuthorityUnit) : (s.withAuthority x).authority = x := rfl
@[simp] theorem State.withAuthority_resolver (x : AuthorityUnit) : (s.withAuthority x).resolver = s.resolver := rfl
@[simp] theorem State.withAuthority_hold (x : AuthorityUnit) : (s.withAuthority x).hold = s.hold := rfl
@[simp] theorem State.withAuthority_grid (x : AuthorityUnit) : (s.withAuthority x).grid = s.grid := rfl
@[simp] theorem State.withAuthority_steering (x : AuthorityUnit) : (s.withAuthority x).steering = s.steering := rfl
@[simp] theorem State.withAuthority_overload (x : AuthorityUnit) : (s.withAuthority x).overload = s.overload := rfl
@[simp] theorem State.withAuthority_governor (x : AuthorityUnit) : (s.withAuthority x).governor = s.governor := rfl
@[simp] theorem State.withAuthority_profile (x : AuthorityUnit) : (s.withAuthority x).profile = s.profile := rfl
@[simp] theorem State.withAuthority_ports (x : AuthorityUnit) : (s.withAuthority x).ports = s.ports := rfl
@[simp] theorem State.withAuthority_draws (x : AuthorityUnit) : (s.withAuthority x).draws = s.draws := rfl
@[simp] theorem State.withAuthority_twice (x y : AuthorityUnit) :
    (s.withAuthority x).withAuthority y = s.withAuthority y := rfl
@[simp] theorem State.withAuthority_self : s.withAuthority s.authority = s := rfl

/-! ### withResolver -/

@[simp] theorem State.withResolver_pending (x : Resolver) : (s.withResolver x).pending = s.pending := rfl
@[simp] theorem State.withResolver_resetting (x : Resolver) : (s.withResolver x).resetting = s.resetting := rfl
@[simp] theorem State.withResolver_capture (x : Resolver) : (s.withResolver x).capture = s.capture := rfl
@[simp] theorem State.withResolver_limits (x : Resolver) : (s.withResolver x).limits = s.limits := rfl
@[simp] theorem State.withResolver_authority (x : Resolver) : (s.withResolver x).authority = s.authority := rfl
@[simp] theorem State.withResolver_resolver (x : Resolver) : (s.withResolver x).resolver = x := rfl
@[simp] theorem State.withResolver_hold (x : Resolver) : (s.withResolver x).hold = s.hold := rfl
@[simp] theorem State.withResolver_grid (x : Resolver) : (s.withResolver x).grid = s.grid := rfl
@[simp] theorem State.withResolver_steering (x : Resolver) : (s.withResolver x).steering = s.steering := rfl
@[simp] theorem State.withResolver_overload (x : Resolver) : (s.withResolver x).overload = s.overload := rfl
@[simp] theorem State.withResolver_governor (x : Resolver) : (s.withResolver x).governor = s.governor := rfl
@[simp] theorem State.withResolver_profile (x : Resolver) : (s.withResolver x).profile = s.profile := rfl
@[simp] theorem State.withResolver_ports (x : Resolver) : (s.withResolver x).ports = s.ports := rfl
@[simp] theorem State.withResolver_draws (x : Resolver) : (s.withResolver x).draws = s.draws := rfl
@[simp] theorem State.withResolver_twice (x y : Resolver) :
    (s.withResolver x).withResolver y = s.withResolver y := rfl
@[simp] theorem State.withResolver_self : s.withResolver s.resolver = s := rfl

/-! ### withHold -/

@[simp] theorem State.withHold_pending (x : HoldUnit) : (s.withHold x).pending = s.pending := rfl
@[simp] theorem State.withHold_resetting (x : HoldUnit) : (s.withHold x).resetting = s.resetting := rfl
@[simp] theorem State.withHold_capture (x : HoldUnit) : (s.withHold x).capture = s.capture := rfl
@[simp] theorem State.withHold_limits (x : HoldUnit) : (s.withHold x).limits = s.limits := rfl
@[simp] theorem State.withHold_authority (x : HoldUnit) : (s.withHold x).authority = s.authority := rfl
@[simp] theorem State.withHold_resolver (x : HoldUnit) : (s.withHold x).resolver = s.resolver := rfl
@[simp] theorem State.withHold_hold (x : HoldUnit) : (s.withHold x).hold = x := rfl
@[simp] theorem State.withHold_grid (x : HoldUnit) : (s.withHold x).grid = s.grid := rfl
@[simp] theorem State.withHold_steering (x : HoldUnit) : (s.withHold x).steering = s.steering := rfl
@[simp] theorem State.withHold_overload (x : HoldUnit) : (s.withHold x).overload = s.overload := rfl
@[simp] theorem State.withHold_governor (x : HoldUnit) : (s.withHold x).governor = s.governor := rfl
@[simp] theorem State.withHold_profile (x : HoldUnit) : (s.withHold x).profile = s.profile := rfl
@[simp] theorem State.withHold_ports (x : HoldUnit) : (s.withHold x).ports = s.ports := rfl
@[simp] theorem State.withHold_draws (x : HoldUnit) : (s.withHold x).draws = s.draws := rfl
@[simp] theorem State.withHold_twice (x y : HoldUnit) :
    (s.withHold x).withHold y = s.withHold y := rfl
@[simp] theorem State.withHold_self : s.withHold s.hold = s := rfl

/-! ### withGrid -/

@[simp] theorem State.withGrid_pending (x : GridUnit) : (s.withGrid x).pending = s.pending := rfl
@[simp] theorem State.withGrid_resetting (x : GridUnit) : (s.withGrid x).resetting = s.resetting := rfl
@[simp] theorem State.withGrid_capture (x : GridUnit) : (s.withGrid x).capture = s.capture := rfl
@[simp] theorem State.withGrid_limits (x : GridUnit) : (s.withGrid x).limits = s.limits := rfl
@[simp] theorem State.withGrid_authority (x : GridUnit) : (s.withGrid x).authority = s.authority := rfl
@[simp] theorem State.withGrid_resolver (x : GridUnit) : (s.withGrid x).resolver = s.resolver := rfl
@[simp] theorem State.withGrid_hold (x : GridUnit) : (s.withGrid x).hold = s.hold := rfl
@[simp] theorem State.withGrid_grid (x : GridUnit) : (s.withGrid x).grid = x := rfl
@[simp] theorem State.withGrid_steering (x : GridUnit) : (s.withGrid x).steering = s.steering := rfl
@[simp] theorem State.withGrid_overload (x : GridUnit) : (s.withGrid x).overload = s.overload := rfl
@[simp] theorem State.withGrid_governor (x : GridUnit) : (s.withGrid x).governor = s.governor := rfl
@[simp] theorem State.withGrid_profile (x : GridUnit) : (s.withGrid x).profile = s.profile := rfl
@[simp] theorem State.withGrid_ports (x : GridUnit) : (s.withGrid x).ports = s.ports := rfl
@[simp] theorem State.withGrid_draws (x : GridUnit) : (s.withGrid x).draws = s.draws := rfl
@[simp] theorem State.withGrid_twice (x y : GridUnit) :
    (s.withGrid x).withGrid y = s.withGrid y := rfl
@[simp] theorem State.withGrid_self : s.withGrid s.grid = s := rfl

/-! ### withSteering -/

@[simp] theorem State.withSteering_pending (x : SteeringUnit) : (s.withSteering x).pending = s.pending := rfl
@[simp] theorem State.withSteering_resetting (x : SteeringUnit) : (s.withSteering x).resetting = s.resetting := rfl
@[simp] theorem State.withSteering_capture (x : SteeringUnit) : (s.withSteering x).capture = s.capture := rfl
@[simp] theorem State.withSteering_limits (x : SteeringUnit) : (s.withSteering x).limits = s.limits := rfl
@[simp] theorem State.withSteering_authority (x : SteeringUnit) : (s.withSteering x).authority = s.authority := rfl
@[simp] theorem State.withSteering_resolver (x : SteeringUnit) : (s.withSteering x).resolver = s.resolver := rfl
@[simp] theorem State.withSteering_hold (x : SteeringUnit) : (s.withSteering x).hold = s.hold := rfl
@[simp] theorem State.withSteering_grid (x : SteeringUnit) : (s.withSteering x).grid = s.grid := rfl
@[simp] theorem State.withSteering_steering (x : SteeringUnit) : (s.withSteering x).steering = x := rfl
@[simp] theorem State.withSteering_overload (x : SteeringUnit) : (s.withSteering x).overload = s.overload := rfl
@[simp] theorem State.withSteering_governor (x : SteeringUnit) : (s.withSteering x).governor = s.governor := rfl
@[simp] theorem State.withSteering_profile (x : SteeringUnit) : (s.withSteering x).profile = s.profile := rfl
@[simp] theorem State.withSteering_ports (x : SteeringUnit) : (s.withSteering x).ports = s.ports := rfl
@[simp] theorem State.withSteering_draws (x : SteeringUnit) : (s.withSteering x).draws = s.draws := rfl
@[simp] theorem State.withSteering_twice (x y : SteeringUnit) :
    (s.withSteering x).withSteering y = s.withSteering y := rfl
@[simp] theorem State.withSteering_self : s.withSteering s.steering = s := rfl

/-! ### withOverload -/

@[simp] theorem State.withOverload_pending (x : OverloadUnit) : (s.withOverload x).pending = s.pending := rfl
@[simp] theorem State.withOverload_resetting (x : OverloadUnit) : (s.withOverload x).resetting = s.resetting := rfl
@[simp] theorem State.withOverload_capture (x : OverloadUnit) : (s.withOverload x).capture = s.capture := rfl
@[simp] theorem State.withOverload_limits (x : OverloadUnit) : (s.withOverload x).limits = s.limits := rfl
@[simp] theorem State.withOverload_authority (x : OverloadUnit) : (s.withOverload x).authority = s.authority := rfl
@[simp] theorem State.withOverload_resolver (x : OverloadUnit) : (s.withOverload x).resolver = s.resolver := rfl
@[simp] theorem State.withOverload_hold (x : OverloadUnit) : (s.withOverload x).hold = s.hold := rfl
@[simp] theorem State.withOverload_grid (x : OverloadUnit) : (s.withOverload x).grid = s.grid := rfl
@[simp] theorem State.withOverload_steering (x : OverloadUnit) : (s.withOverload x).steering = s.steering := rfl
@[simp] theorem State.withOverload_overload (x : OverloadUnit) : (s.withOverload x).overload = x := rfl
@[simp] theorem State.withOverload_governor (x : OverloadUnit) : (s.withOverload x).governor = s.governor := rfl
@[simp] theorem State.withOverload_profile (x : OverloadUnit) : (s.withOverload x).profile = s.profile := rfl
@[simp] theorem State.withOverload_ports (x : OverloadUnit) : (s.withOverload x).ports = s.ports := rfl
@[simp] theorem State.withOverload_draws (x : OverloadUnit) : (s.withOverload x).draws = s.draws := rfl
@[simp] theorem State.withOverload_twice (x y : OverloadUnit) :
    (s.withOverload x).withOverload y = s.withOverload y := rfl
@[simp] theorem State.withOverload_self : s.withOverload s.overload = s := rfl

/-! ### withGovernor -/

@[simp] theorem State.withGovernor_pending (x : Governor) : (s.withGovernor x).pending = s.pending := rfl
@[simp] theorem State.withGovernor_resetting (x : Governor) : (s.withGovernor x).resetting = s.resetting := rfl
@[simp] theorem State.withGovernor_capture (x : Governor) : (s.withGovernor x).capture = s.capture := rfl
@[simp] theorem State.withGovernor_limits (x : Governor) : (s.withGovernor x).limits = s.limits := rfl
@[simp] theorem State.withGovernor_authority (x : Governor) : (s.withGovernor x).authority = s.authority := rfl
@[simp] theorem State.withGovernor_resolver (x : Governor) : (s.withGovernor x).resolver = s.resolver := rfl
@[simp] theorem State.withGovernor_hold (x : Governor) : (s.withGovernor x).hold = s.hold := rfl
@[simp] theorem State.withGovernor_grid (x : Governor) : (s.withGovernor x).grid = s.grid := rfl
@[simp] theorem State.withGovernor_steering (x : Governor) : (s.withGovernor x).steering = s.steering := rfl
@[simp] theorem State.withGovernor_overload (x : Governor) : (s.withGovernor x).overload = s.overload := rfl
@[simp] theorem State.withGovernor_governor (x : Governor) : (s.withGovernor x).governor = x := rfl
@[simp] theorem State.withGovernor_profile (x : Governor) : (s.withGovernor x).profile = s.profile := rfl
@[simp] theorem State.withGovernor_ports (x : Governor) : (s.withGovernor x).ports = s.ports := rfl
@[simp] theorem State.withGovernor_draws (x : Governor) : (s.withGovernor x).draws = s.draws := rfl
@[simp] theorem State.withGovernor_twice (x y : Governor) :
    (s.withGovernor x).withGovernor y = s.withGovernor y := rfl
@[simp] theorem State.withGovernor_self : s.withGovernor s.governor = s := rfl

/-! ### withProfile -/

@[simp] theorem State.withProfile_pending (x : Profile) : (s.withProfile x).pending = s.pending := rfl
@[simp] theorem State.withProfile_resetting (x : Profile) : (s.withProfile x).resetting = s.resetting := rfl
@[simp] theorem State.withProfile_capture (x : Profile) : (s.withProfile x).capture = s.capture := rfl
@[simp] theorem State.withProfile_limits (x : Profile) : (s.withProfile x).limits = s.limits := rfl
@[simp] theorem State.withProfile_authority (x : Profile) : (s.withProfile x).authority = s.authority := rfl
@[simp] theorem State.withProfile_resolver (x : Profile) : (s.withProfile x).resolver = s.resolver := rfl
@[simp] theorem State.withProfile_hold (x : Profile) : (s.withProfile x).hold = s.hold := rfl
@[simp] theorem State.withProfile_grid (x : Profile) : (s.withProfile x).grid = s.grid := rfl
@[simp] theorem State.withProfile_steering (x : Profile) : (s.withProfile x).steering = s.steering := rfl
@[simp] theorem State.withProfile_overload (x : Profile) : (s.withProfile x).overload = s.overload := rfl
@[simp] theorem State.withProfile_governor (x : Profile) : (s.withProfile x).governor = s.governor := rfl
@[simp] theorem State.withProfile_profile (x : Profile) : (s.withProfile x).profile = x := rfl
@[simp] theorem State.withProfile_ports (x : Profile) : (s.withProfile x).ports = s.ports := rfl
@[simp] theorem State.withProfile_draws (x : Profile) : (s.withProfile x).draws = s.draws := rfl
@[simp] theorem State.withProfile_twice (x y : Profile) :
    (s.withProfile x).withProfile y = s.withProfile y := rfl
@[simp] theorem State.withProfile_self : s.withProfile s.profile = s := rfl

/-! ### withPorts -/

@[simp] theorem State.withPorts_pending (x : PortUnit) : (s.withPorts x).pending = s.pending := rfl
@[simp] theorem State.withPorts_resetting (x : PortUnit) : (s.withPorts x).resetting = s.resetting := rfl
@[simp] theorem State.withPorts_capture (x : PortUnit) : (s.withPorts x).capture = s.capture := rfl
@[simp] theorem State.withPorts_limits (x : PortUnit) : (s.withPorts x).limits = s.limits := rfl
@[simp] theorem State.withPorts_authority (x : PortUnit) : (s.withPorts x).authority = s.authority := rfl
@[simp] theorem State.withPorts_resolver (x : PortUnit) : (s.withPorts x).resolver = s.resolver := rfl
@[simp] theorem State.withPorts_hold (x : PortUnit) : (s.withPorts x).hold = s.hold := rfl
@[simp] theorem State.withPorts_grid (x : PortUnit) : (s.withPorts x).grid = s.grid := rfl
@[simp] theorem State.withPorts_steering (x : PortUnit) : (s.withPorts x).steering = s.steering := rfl
@[simp] theorem State.withPorts_overload (x : PortUnit) : (s.withPorts x).overload = s.overload := rfl
@[simp] theorem State.withPorts_governor (x : PortUnit) : (s.withPorts x).governor = s.governor := rfl
@[simp] theorem State.withPorts_profile (x : PortUnit) : (s.withPorts x).profile = s.profile := rfl
@[simp] theorem State.withPorts_ports (x : PortUnit) : (s.withPorts x).ports = x := rfl
@[simp] theorem State.withPorts_draws (x : PortUnit) : (s.withPorts x).draws = s.draws := rfl
@[simp] theorem State.withPorts_twice (x y : PortUnit) :
    (s.withPorts x).withPorts y = s.withPorts y := rfl
@[simp] theorem State.withPorts_self : s.withPorts s.ports = s := rfl

/-! ### withDraws -/

@[simp] theorem State.withDraws_pending (x : Nat) : (s.withDraws x).pending = s.pending := rfl
@[simp] theorem State.withDraws_resetting (x : Nat) : (s.withDraws x).resetting = s.resetting := rfl
@[simp] theorem State.withDraws_capture (x : Nat) : (s.withDraws x).capture = s.capture := rfl
@[simp] theorem State.withDraws_limits (x : Nat) : (s.withDraws x).limits = s.limits := rfl
@[simp] theorem State.withDraws_authority (x : Nat) : (s.withDraws x).authority = s.authority := rfl
@[simp] theorem State.withDraws_resolver (x : Nat) : (s.withDraws x).resolver = s.resolver := rfl
@[simp] theorem State.withDraws_hold (x : Nat) : (s.withDraws x).hold = s.hold := rfl
@[simp] theorem State.withDraws_grid (x : Nat) : (s.withDraws x).grid = s.grid := rfl
@[simp] theorem State.withDraws_steering (x : Nat) : (s.withDraws x).steering = s.steering := rfl
@[simp] theorem State.withDraws_overload (x : Nat) : (s.withDraws x).overload = s.overload := rfl
@[simp] theorem State.withDraws_governor (x : Nat) : (s.withDraws x).governor = s.governor := rfl
@[simp] theorem State.withDraws_profile (x : Nat) : (s.withDraws x).profile = s.profile := rfl
@[simp] theorem State.withDraws_ports (x : Nat) : (s.withDraws x).ports = s.ports := rfl
@[simp] theorem State.withDraws_draws (x : Nat) : (s.withDraws x).draws = x := rfl
@[simp] theorem State.withDraws_twice (x y : Nat) :
    (s.withDraws x).withDraws y = s.withDraws y := rfl
@[simp] theorem State.withDraws_self : s.withDraws s.draws = s := rfl

end Sys2Proof.Machine
end

