-- ==== Sys2Proof/Laws/Ops.lean ====
section
/-! SUPPORT. The reads and writes of one of a pair, and the two ways an event reaches its block. -/

namespace Sys2Proof.Machine

section Pairs
variable {α : Type}

@[simp] theorem PerWheel.get_set (p : PerWheel α) (w : Wheel) (x : α) : (p.set w x).get w = x := by
  cases w <;> rfl

theorem PerWheel.get_set_of_ne (p : PerWheel α) {v w : Wheel} (h : v ≠ w) (x : α) :
    (p.set w x).get v = p.get v := by
  cases v <;> cases w <;> first | rfl | exact absurd rfl h

@[simp] theorem PerWheel.get_set_other (p : PerWheel α) (w : Wheel) (x : α) :
    (p.set w x).get (otherWheel w) = p.get (otherWheel w) := by
  cases w <;> rfl

@[simp] theorem PerBank.get_set (p : PerBank α) (b : BankId) (x : α) : (p.set b x).get b = x := by
  cases b <;> rfl

theorem PerBank.get_set_of_ne (p : PerBank α) {a b : BankId} (h : a ≠ b) (x : α) :
    (p.set b x).get a = p.get a := by
  cases a <;> cases b <;> first | rfl | exact absurd rfl h

@[simp] theorem PerPort.get_set (t : PerPort α) (p : Port) (x : α) : (t.set p x).get p = x := by
  cases p <;> rfl

theorem PerPort.get_set_of_ne (t : PerPort α) {p q : Port} (h : q ≠ p) (x : α) :
    (t.set p x).get q = t.get q := by
  cases p <;> cases q <;> first | rfl | exact absurd rfl h

@[simp] theorem PerParty.get_set (t : PerParty α) (x : Party) (v : α) : (t.set x v).get x = v := by
  cases x <;> rfl

theorem PerParty.get_set_of_ne (t : PerParty α) {x y : Party} (h : y ≠ x) (v : α) :
    (t.set x v).get y = t.get y := by
  cases x <;> cases y <;> first | rfl | exact absurd rfl h

@[simp] theorem PerElement.get_set (t : PerElement α) (e : Element) (x : α) : (t.set e x).get e = x := by
  cases e <;> rfl

theorem PerElement.get_set_of_ne (t : PerElement α) {e k : Element} (h : k ≠ e) (x : α) :
    (t.set e x).get k = t.get k := by
  cases e <;> cases k <;> first | rfl | exact absurd rfl h

end Pairs

/-- What an event does while no reset is in progress. -/
theorem whenLive_live (effect : State → State) {s : State} (h : s.resetting = none) :
    whenLive effect s = .next (effect s) := by
  simp [whenLive, h]

/-- What an event does during a reset. -/
theorem whenLive_resetting (effect : State → State) {s : State} (h : s.resetting.isSome) :
    whenLive effect s = .next s := by
  simp [whenLive, h]

/-- What an expiry does while its timer runs. -/
theorem whenRunning_running (t : State → Timer) (effect : State → State) {s : State}
    (h : s.resetting = none) (r : (t s).isSome) : whenRunning t effect s = .next (effect s) := by
  simp [whenRunning, whenLive, h, r]

/-- What an expiry does while its timer is stopped. -/
theorem whenRunning_stopped (t : State → Timer) (effect : State → State) {s : State} (r : t s = none) :
    whenRunning t effect s = .next s := by
  simp [whenRunning, whenLive, r]

/-- Everything an event at a block can do. -/
theorem whenLive_cases {effect : State → State} {s t : State} (h : whenLive effect s = .next t) :
    (s.resetting.isSome ∧ t = s) ∨ (s.resetting = none ∧ t = effect s) := by
  unfold whenLive at h
  cases hr : s.resetting with
  | none => right; simp [hr] at h; exact ⟨rfl, h.symm⟩
  | some c => left; simp [hr] at h; exact ⟨rfl, h.symm⟩

/-- Everything an expiry can do. -/
theorem whenRunning_cases {tm : State → Timer} {effect : State → State} {s t : State}
    (h : whenRunning tm effect s = .next t) :
    t = s ∨ (s.resetting = none ∧ (tm s).isSome ∧ t = effect s) := by
  rcases whenLive_cases h with ⟨_, rfl⟩ | ⟨hr, rfl⟩
  · exact .inl rfl
  · by_cases hs : (tm s).isSome
    · exact .inr ⟨hr, hs, by simp [hs]⟩
    · exact .inl (by simp [hs])

end Sys2Proof.Machine
end

