-- ==== Sys2Proof/Laws/Frames.lean ====
section
/-! SUPPORT. What an operation can change. `Within m s t` says that t differs from s at most in the
blocks the mask m names, and in the parts of those blocks that m names beside them; for each operation,
`<op>_frame` gives its mask, and `<op>_within` adds the operation at the end of a chain that keeps within
a larger mask. -/

namespace Sys2Proof.Machine

/-- A set of blocks, and of parts of blocks: the modes seen by the Grade Hold and Grid Drive Units, the
committed flags, the dump, the GRID value, what Governor Control and the Authority Unit hold, and what
the ports hold beside their notice queues. -/
structure Blocks where
  capture : Bool := false
  limits : Bool := false
  authority : Bool := false
  resolver : Bool := false
  hold : Bool := false
  grid : Bool := false
  steering : Bool := false
  overload : Bool := false
  governor : Bool := false
  profile : Bool := false
  ports : Bool := false
  holdMode : Bool := false
  gridMode : Bool := false
  gridCommit : Bool := false
  dumpOn : Bool := false
  gridValue : Bool := false
  steerCommit : Bool := false
  mode : Bool := false
  trips : Bool := false
  held : Bool := false
  record : Bool := false
  committed : Bool := false
  answers : Bool := false
deriving DecidableEq, Repr

/-- Every member of the first set is in the second. -/
def Blocks.le (a b : Blocks) : Bool :=
  (!a.capture || b.capture) &&
    (!a.limits || b.limits) &&
    (!a.authority || b.authority) &&
    (!a.resolver || b.resolver) &&
    (!a.hold || b.hold) &&
    (!a.grid || b.grid) &&
    (!a.steering || b.steering) &&
    (!a.overload || b.overload) &&
    (!a.governor || b.governor) &&
    (!a.profile || b.profile) &&
    (!a.ports || b.ports) &&
    (!a.holdMode || b.holdMode) &&
    (!a.gridMode || b.gridMode) &&
    (!a.gridCommit || b.gridCommit) &&
    (!a.dumpOn || b.dumpOn) &&
    (!a.gridValue || b.gridValue) &&
    (!a.steerCommit || b.steerCommit) &&
    (!a.mode || b.mode) &&
    (!a.trips || b.trips) &&
    (!a.held || b.held) &&
    (!a.record || b.record) &&
    (!a.committed || b.committed) &&
    (!a.answers || b.answers)

/-- t is s but for the members of a set. -/
structure Within (m : Blocks) (s t : State) : Prop where
  pending : t.pending = s.pending
  resetting : t.resetting = s.resetting
  draws : t.draws = s.draws
  strap : t.ports.strap = s.ports.strap
  capture : m.capture = false → t.capture = s.capture
  limits : m.limits = false → t.limits = s.limits
  authority : m.authority = false → t.authority = s.authority
  resolver : m.resolver = false → t.resolver = s.resolver
  hold : m.hold = false → t.hold = s.hold
  grid : m.grid = false → t.grid = s.grid
  steering : m.steering = false → t.steering = s.steering
  overload : m.overload = false → t.overload = s.overload
  governor : m.governor = false → t.governor = s.governor
  profile : m.profile = false → t.profile = s.profile
  ports : m.ports = false → t.ports = s.ports
  holdMode : m.holdMode = false → t.hold.ctx.modeSeen = s.hold.ctx.modeSeen
  gridMode : m.gridMode = false → t.grid.modeSeen = s.grid.modeSeen
  gridCommit : m.gridCommit = false → t.grid.committed = s.grid.committed
  dumpOn : m.dumpOn = false → t.grid.dumpOn = s.grid.dumpOn
  gridValue : m.gridValue = false → t.grid.gridValue = s.grid.gridValue
  steerCommit : m.steerCommit = false → t.steering.committed = s.steering.committed
  mode : m.mode = false → t.governor.mode = s.governor.mode
  trips : m.trips = false → t.governor.trips = s.governor.trips
  held : m.held = false → t.governor.authorityHeld = s.governor.authorityHeld
  record : m.record = false → t.authority.record = s.authority.record
  committed : m.committed = false → t.profile.committed = s.profile.committed
  answers : m.answers = false → Safety.front t.ports = Safety.front s.ports

theorem Within.refl (m : Blocks) (s : State) : Within m s s := by
  constructor <;> intros <;> rfl

theorem Within.trans {m : Blocks} {s t u : State} (h : Within m s t) (k : Within m t u) :
    Within m s u := by
  constructor
  · exact k.pending.trans h.pending
  · exact k.resetting.trans h.resetting
  · exact k.draws.trans h.draws
  · exact k.strap.trans h.strap
  · exact fun e => (k.capture e).trans (h.capture e)
  · exact fun e => (k.limits e).trans (h.limits e)
  · exact fun e => (k.authority e).trans (h.authority e)
  · exact fun e => (k.resolver e).trans (h.resolver e)
  · exact fun e => (k.hold e).trans (h.hold e)
  · exact fun e => (k.grid e).trans (h.grid e)
  · exact fun e => (k.steering e).trans (h.steering e)
  · exact fun e => (k.overload e).trans (h.overload e)
  · exact fun e => (k.governor e).trans (h.governor e)
  · exact fun e => (k.profile e).trans (h.profile e)
  · exact fun e => (k.ports e).trans (h.ports e)
  · exact fun e => (k.holdMode e).trans (h.holdMode e)
  · exact fun e => (k.gridMode e).trans (h.gridMode e)
  · exact fun e => (k.gridCommit e).trans (h.gridCommit e)
  · exact fun e => (k.dumpOn e).trans (h.dumpOn e)
  · exact fun e => (k.gridValue e).trans (h.gridValue e)
  · exact fun e => (k.steerCommit e).trans (h.steerCommit e)
  · exact fun e => (k.mode e).trans (h.mode e)
  · exact fun e => (k.trips e).trans (h.trips e)
  · exact fun e => (k.held e).trans (h.held e)
  · exact fun e => (k.record e).trans (h.record e)
  · exact fun e => (k.committed e).trans (h.committed e)
  · exact fun e => (k.answers e).trans (h.answers e)

theorem Within.mono {m n : Blocks} {s t : State} (h : Within m s t) (le : m.le n = true) :
    Within n s t := by
  simp only [Blocks.le, Bool.and_eq_true, Bool.or_eq_true, Bool.not_eq_true'] at le
  constructor
  · exact h.pending
  · exact h.resetting
  · exact h.draws
  · exact h.strap
  · exact fun e => h.capture (by have := le; simp_all)
  · exact fun e => h.limits (by have := le; simp_all)
  · exact fun e => h.authority (by have := le; simp_all)
  · exact fun e => h.resolver (by have := le; simp_all)
  · exact fun e => h.hold (by have := le; simp_all)
  · exact fun e => h.grid (by have := le; simp_all)
  · exact fun e => h.steering (by have := le; simp_all)
  · exact fun e => h.overload (by have := le; simp_all)
  · exact fun e => h.governor (by have := le; simp_all)
  · exact fun e => h.profile (by have := le; simp_all)
  · exact fun e => h.ports (by have := le; simp_all)
  · exact fun e => h.holdMode (by have := le; simp_all)
  · exact fun e => h.gridMode (by have := le; simp_all)
  · exact fun e => h.gridCommit (by have := le; simp_all)
  · exact fun e => h.dumpOn (by have := le; simp_all)
  · exact fun e => h.gridValue (by have := le; simp_all)
  · exact fun e => h.steerCommit (by have := le; simp_all)
  · exact fun e => h.mode (by have := le; simp_all)
  · exact fun e => h.trips (by have := le; simp_all)
  · exact fun e => h.held (by have := le; simp_all)
  · exact fun e => h.record (by have := le; simp_all)
  · exact fun e => h.committed (by have := le; simp_all)
  · exact fun e => h.answers (by have := le; simp_all)

/-- The set of ports. -/
def Blocks.ofPorts : Blocks :=
  { ports := true }
/-- The set of ports, answers. -/
def Blocks.ofAnswer : Blocks :=
  { ports := true, answers := true }
/-- The set of limits, ports. -/
def Blocks.ofTable : Blocks :=
  { limits := true, ports := true }
/-- The set of hold, ports. -/
def Blocks.ofHold : Blocks :=
  { hold := true, ports := true }
/-- The set of hold, holdMode, ports. -/
def Blocks.ofHoldMode : Blocks :=
  { hold := true, holdMode := true, ports := true }
/-- The set of steering, limits, ports. -/
def Blocks.ofSteering : Blocks :=
  { steering := true, limits := true, ports := true }
/-- The set of grid, ports. -/
def Blocks.ofGrid : Blocks :=
  { grid := true, ports := true }
/-- The set of grid, gridMode, ports. -/
def Blocks.ofGridMode : Blocks :=
  { grid := true, gridMode := true, ports := true }
/-- The set of grid, gridValue, hold, limits, ports. -/
def Blocks.ofGridPost : Blocks :=
  { grid := true, gridValue := true, hold := true, limits := true, ports := true }
/-- The set of grid, gridCommit, gridValue, limits, ports. -/
def Blocks.ofCommitGrid : Blocks :=
  { grid := true, gridCommit := true, gridValue := true, limits := true, ports := true }
/-- The set of steering, steerCommit, limits, ports. -/
def Blocks.ofCommitSteering : Blocks :=
  { steering := true, steerCommit := true, limits := true, ports := true }
/-- The set of resolver, hold, grid, steering, limits, ports. -/
def Blocks.ofPublication : Blocks :=
  { resolver := true, hold := true, grid := true, steering := true, limits := true, ports := true }
/-- The set of governor, mode, ports. -/
def Blocks.ofSetMode : Blocks :=
  { governor := true, mode := true, ports := true }
/-- The set of governor, mode, holdMode, gridMode, resolver, hold, grid, steering, limits, ports. -/
def Blocks.ofMode : Blocks :=
  { governor := true, mode := true, holdMode := true, gridMode := true, resolver := true, hold := true, grid := true, steering := true, limits := true, ports := true }
/-- The set of held, governor, mode, holdMode, gridMode, resolver, hold, grid, steering, limits, ports. -/
def Blocks.ofAuthEvent : Blocks :=
  { held := true, governor := true, mode := true, holdMode := true, gridMode := true, resolver := true, hold := true, grid := true, steering := true, limits := true, ports := true }
/-- The set of trips, governor, mode, holdMode, gridMode, resolver, hold, grid, steering, limits, ports. -/
def Blocks.ofLatch : Blocks :=
  { trips := true, governor := true, mode := true, holdMode := true, gridMode := true, resolver := true, hold := true, grid := true, steering := true, limits := true, ports := true }
/-- The set of overload, trips, governor, mode, holdMode, gridMode, resolver, hold, grid, steering, limits, ports. -/
def Blocks.ofOverload : Blocks :=
  { overload := true, trips := true, governor := true, mode := true, holdMode := true, gridMode := true, resolver := true, hold := true, grid := true, steering := true, limits := true, ports := true }
/-- The set of overload, dumpOn, trips, governor, mode, holdMode, gridMode, resolver, hold, grid, steering, limits, ports. -/
def Blocks.ofGate : Blocks :=
  { overload := true, dumpOn := true, trips := true, governor := true, mode := true, holdMode := true, gridMode := true, resolver := true, hold := true, grid := true, steering := true, limits := true, ports := true }
/-- The set of capture, overload, dumpOn, trips, governor, mode, holdMode, gridMode, resolver, hold, grid, steering, limits, ports. -/
def Blocks.ofGateExpiry : Blocks :=
  { capture := true, overload := true, dumpOn := true, trips := true, governor := true, mode := true, holdMode := true, gridMode := true, resolver := true, hold := true, grid := true, steering := true, limits := true, ports := true }
/-- The set of capture, trips, governor, mode, holdMode, gridMode, resolver, hold, grid, steering, limits, ports. -/
def Blocks.ofWheel : Blocks :=
  { capture := true, trips := true, governor := true, mode := true, holdMode := true, gridMode := true, resolver := true, hold := true, grid := true, steering := true, limits := true, ports := true }
/-- The set of authority, record, held, governor, mode, holdMode, gridMode, resolver, hold, grid, steering, limits, ports. -/
def Blocks.ofAuthority : Blocks :=
  { authority := true, record := true, held := true, governor := true, mode := true, holdMode := true, gridMode := true, resolver := true, hold := true, grid := true, steering := true, limits := true, ports := true }
/-- The set of authority, hold, ports. -/
def Blocks.ofDemands : Blocks :=
  { authority := true, hold := true, ports := true }
/-- The set of grid, limits, ports. -/
def Blocks.ofThermal : Blocks :=
  { grid := true, limits := true, ports := true }
/-- The set of overload, grid, limits, ports. -/
def Blocks.ofThermalAll : Blocks :=
  { overload := true, grid := true, limits := true, ports := true }
/-- The set of steering, overload, limits, ports. -/
def Blocks.ofReport : Blocks :=
  { steering := true, overload := true, limits := true, ports := true }
/-- The set of overload, ports. -/
def Blocks.ofStale : Blocks :=
  { overload := true, ports := true }
/-- The set of overload, governor, trips, grid, limits, ports. -/
def Blocks.ofClear : Blocks :=
  { overload := true, governor := true, trips := true, grid := true, limits := true, ports := true }
/-- The set of capture, profile, committed, overload, gridCommit, gridValue, steerCommit, governor, mode, holdMode, gridMode, resolver, hold, grid, steering, limits, ports. -/
def Blocks.ofCommit : Blocks :=
  { capture := true, profile := true, committed := true, overload := true, gridCommit := true, gridValue := true, steerCommit := true, governor := true, mode := true, holdMode := true, gridMode := true, resolver := true, hold := true, grid := true, steering := true, limits := true, ports := true }
/-- The set of capture. -/
def Blocks.onlyCapture : Blocks :=
  { capture := true }
/-- The set of limits. -/
def Blocks.onlyLimits : Blocks :=
  { limits := true }
/-- The set of resolver. -/
def Blocks.onlyResolver : Blocks :=
  { resolver := true }
/-- The set of hold. -/
def Blocks.onlyHold : Blocks :=
  { hold := true }
/-- The set of grid. -/
def Blocks.onlyGrid : Blocks :=
  { grid := true }
/-- The set of grid, dumpOn. -/
def Blocks.onlyDump : Blocks :=
  { grid := true, dumpOn := true }
/-- The set of steering. -/
def Blocks.onlySteering : Blocks :=
  { steering := true }
/-- The set of overload. -/
def Blocks.onlyOverload : Blocks :=
  { overload := true }
/-- The set of governor, trips. -/
def Blocks.onlyTrips : Blocks :=
  { governor := true, trips := true }

/-! ### Setters -/

theorem State.withCapture_within {m : Blocks} {s t : State} {x : Capture} (h : Within m s t)
    (may : m.capture = true) :
    Within m s (t.withCapture x) := by
  constructor
  · exact h.pending
  · exact h.resetting
  · exact h.draws
  · exact h.strap
  · exact fun e => absurd (e.symm.trans may) Bool.false_ne_true
  · exact h.limits
  · exact h.authority
  · exact h.resolver
  · exact h.hold
  · exact h.grid
  · exact h.steering
  · exact h.overload
  · exact h.governor
  · exact h.profile
  · exact h.ports
  · exact h.holdMode
  · exact h.gridMode
  · exact h.gridCommit
  · exact h.dumpOn
  · exact h.gridValue
  · exact h.steerCommit
  · exact h.mode
  · exact h.trips
  · exact h.held
  · exact h.record
  · exact h.committed
  · exact h.answers

theorem State.withLimits_within {m : Blocks} {s t : State} {x : LimitUnit} (h : Within m s t)
    (may : m.limits = true) :
    Within m s (t.withLimits x) := by
  constructor
  · exact h.pending
  · exact h.resetting
  · exact h.draws
  · exact h.strap
  · exact h.capture
  · exact fun e => absurd (e.symm.trans may) Bool.false_ne_true
  · exact h.authority
  · exact h.resolver
  · exact h.hold
  · exact h.grid
  · exact h.steering
  · exact h.overload
  · exact h.governor
  · exact h.profile
  · exact h.ports
  · exact h.holdMode
  · exact h.gridMode
  · exact h.gridCommit
  · exact h.dumpOn
  · exact h.gridValue
  · exact h.steerCommit
  · exact h.mode
  · exact h.trips
  · exact h.held
  · exact h.record
  · exact h.committed
  · exact h.answers

theorem State.withAuthority_within {m : Blocks} {s t : State} {x : AuthorityUnit} (h : Within m s t)
    (may : m.authority = true)
    (record : m.record = false → x.record = t.authority.record := by first | exact fun _ => rfl | exact fun h => nomatch h) :
    Within m s (t.withAuthority x) := by
  constructor
  · exact h.pending
  · exact h.resetting
  · exact h.draws
  · exact h.strap
  · exact h.capture
  · exact h.limits
  · exact fun e => absurd (e.symm.trans may) Bool.false_ne_true
  · exact h.resolver
  · exact h.hold
  · exact h.grid
  · exact h.steering
  · exact h.overload
  · exact h.governor
  · exact h.profile
  · exact h.ports
  · exact h.holdMode
  · exact h.gridMode
  · exact h.gridCommit
  · exact h.dumpOn
  · exact h.gridValue
  · exact h.steerCommit
  · exact h.mode
  · exact h.trips
  · exact h.held
  · exact fun e => (record e).trans (h.record e)
  · exact h.committed
  · exact h.answers

theorem State.withResolver_within {m : Blocks} {s t : State} {x : Resolver} (h : Within m s t)
    (may : m.resolver = true) :
    Within m s (t.withResolver x) := by
  constructor
  · exact h.pending
  · exact h.resetting
  · exact h.draws
  · exact h.strap
  · exact h.capture
  · exact h.limits
  · exact h.authority
  · exact fun e => absurd (e.symm.trans may) Bool.false_ne_true
  · exact h.hold
  · exact h.grid
  · exact h.steering
  · exact h.overload
  · exact h.governor
  · exact h.profile
  · exact h.ports
  · exact h.holdMode
  · exact h.gridMode
  · exact h.gridCommit
  · exact h.dumpOn
  · exact h.gridValue
  · exact h.steerCommit
  · exact h.mode
  · exact h.trips
  · exact h.held
  · exact h.record
  · exact h.committed
  · exact h.answers

theorem State.withHold_within {m : Blocks} {s t : State} {x : HoldUnit} (h : Within m s t)
    (may : m.hold = true)
    (holdMode : m.holdMode = false → x.ctx.modeSeen = t.hold.ctx.modeSeen := by first | exact fun _ => rfl | exact fun h => nomatch h) :
    Within m s (t.withHold x) := by
  constructor
  · exact h.pending
  · exact h.resetting
  · exact h.draws
  · exact h.strap
  · exact h.capture
  · exact h.limits
  · exact h.authority
  · exact h.resolver
  · exact fun e => absurd (e.symm.trans may) Bool.false_ne_true
  · exact h.grid
  · exact h.steering
  · exact h.overload
  · exact h.governor
  · exact h.profile
  · exact h.ports
  · exact fun e => (holdMode e).trans (h.holdMode e)
  · exact h.gridMode
  · exact h.gridCommit
  · exact h.dumpOn
  · exact h.gridValue
  · exact h.steerCommit
  · exact h.mode
  · exact h.trips
  · exact h.held
  · exact h.record
  · exact h.committed
  · exact h.answers

theorem State.withGrid_within {m : Blocks} {s t : State} {x : GridUnit} (h : Within m s t)
    (may : m.grid = true)
    (gridMode : m.gridMode = false → x.modeSeen = t.grid.modeSeen := by first | exact fun _ => rfl | exact fun h => nomatch h)
    (gridCommit : m.gridCommit = false → x.committed = t.grid.committed := by first | exact fun _ => rfl | exact fun h => nomatch h)
    (dumpOn : m.dumpOn = false → x.dumpOn = t.grid.dumpOn := by first | exact fun _ => rfl | exact fun h => nomatch h)
    (gridValue : m.gridValue = false → x.gridValue = t.grid.gridValue := by first | exact fun _ => rfl | exact fun h => nomatch h) :
    Within m s (t.withGrid x) := by
  constructor
  · exact h.pending
  · exact h.resetting
  · exact h.draws
  · exact h.strap
  · exact h.capture
  · exact h.limits
  · exact h.authority
  · exact h.resolver
  · exact h.hold
  · exact fun e => absurd (e.symm.trans may) Bool.false_ne_true
  · exact h.steering
  · exact h.overload
  · exact h.governor
  · exact h.profile
  · exact h.ports
  · exact h.holdMode
  · exact fun e => (gridMode e).trans (h.gridMode e)
  · exact fun e => (gridCommit e).trans (h.gridCommit e)
  · exact fun e => (dumpOn e).trans (h.dumpOn e)
  · exact fun e => (gridValue e).trans (h.gridValue e)
  · exact h.steerCommit
  · exact h.mode
  · exact h.trips
  · exact h.held
  · exact h.record
  · exact h.committed
  · exact h.answers

theorem State.withSteering_within {m : Blocks} {s t : State} {x : SteeringUnit} (h : Within m s t)
    (may : m.steering = true)
    (steerCommit : m.steerCommit = false → x.committed = t.steering.committed := by first | exact fun _ => rfl | exact fun h => nomatch h) :
    Within m s (t.withSteering x) := by
  constructor
  · exact h.pending
  · exact h.resetting
  · exact h.draws
  · exact h.strap
  · exact h.capture
  · exact h.limits
  · exact h.authority
  · exact h.resolver
  · exact h.hold
  · exact h.grid
  · exact fun e => absurd (e.symm.trans may) Bool.false_ne_true
  · exact h.overload
  · exact h.governor
  · exact h.profile
  · exact h.ports
  · exact h.holdMode
  · exact h.gridMode
  · exact h.gridCommit
  · exact h.dumpOn
  · exact h.gridValue
  · exact fun e => (steerCommit e).trans (h.steerCommit e)
  · exact h.mode
  · exact h.trips
  · exact h.held
  · exact h.record
  · exact h.committed
  · exact h.answers

theorem State.withOverload_within {m : Blocks} {s t : State} {x : OverloadUnit} (h : Within m s t)
    (may : m.overload = true) :
    Within m s (t.withOverload x) := by
  constructor
  · exact h.pending
  · exact h.resetting
  · exact h.draws
  · exact h.strap
  · exact h.capture
  · exact h.limits
  · exact h.authority
  · exact h.resolver
  · exact h.hold
  · exact h.grid
  · exact h.steering
  · exact fun e => absurd (e.symm.trans may) Bool.false_ne_true
  · exact h.governor
  · exact h.profile
  · exact h.ports
  · exact h.holdMode
  · exact h.gridMode
  · exact h.gridCommit
  · exact h.dumpOn
  · exact h.gridValue
  · exact h.steerCommit
  · exact h.mode
  · exact h.trips
  · exact h.held
  · exact h.record
  · exact h.committed
  · exact h.answers

theorem State.withGovernor_within {m : Blocks} {s t : State} {x : Governor} (h : Within m s t)
    (may : m.governor = true)
    (mode : m.mode = false → x.mode = t.governor.mode := by first | exact fun _ => rfl | exact fun h => nomatch h)
    (trips : m.trips = false → x.trips = t.governor.trips := by first | exact fun _ => rfl | exact fun h => nomatch h)
    (held : m.held = false → x.authorityHeld = t.governor.authorityHeld := by first | exact fun _ => rfl | exact fun h => nomatch h) :
    Within m s (t.withGovernor x) := by
  constructor
  · exact h.pending
  · exact h.resetting
  · exact h.draws
  · exact h.strap
  · exact h.capture
  · exact h.limits
  · exact h.authority
  · exact h.resolver
  · exact h.hold
  · exact h.grid
  · exact h.steering
  · exact h.overload
  · exact fun e => absurd (e.symm.trans may) Bool.false_ne_true
  · exact h.profile
  · exact h.ports
  · exact h.holdMode
  · exact h.gridMode
  · exact h.gridCommit
  · exact h.dumpOn
  · exact h.gridValue
  · exact h.steerCommit
  · exact fun e => (mode e).trans (h.mode e)
  · exact fun e => (trips e).trans (h.trips e)
  · exact fun e => (held e).trans (h.held e)
  · exact h.record
  · exact h.committed
  · exact h.answers

theorem State.withProfile_within {m : Blocks} {s t : State} {x : Profile} (h : Within m s t)
    (may : m.profile = true)
    (committed : m.committed = false → x.committed = t.profile.committed := by first | exact fun _ => rfl | exact fun h => nomatch h) :
    Within m s (t.withProfile x) := by
  constructor
  · exact h.pending
  · exact h.resetting
  · exact h.draws
  · exact h.strap
  · exact h.capture
  · exact h.limits
  · exact h.authority
  · exact h.resolver
  · exact h.hold
  · exact h.grid
  · exact h.steering
  · exact h.overload
  · exact h.governor
  · exact fun e => absurd (e.symm.trans may) Bool.false_ne_true
  · exact h.ports
  · exact h.holdMode
  · exact h.gridMode
  · exact h.gridCommit
  · exact h.dumpOn
  · exact h.gridValue
  · exact h.steerCommit
  · exact h.mode
  · exact h.trips
  · exact h.held
  · exact h.record
  · exact fun e => (committed e).trans (h.committed e)
  · exact h.answers

theorem State.withPorts_within {m : Blocks} {s t : State} {x : PortUnit} (h : Within m s t)
    (may : m.ports = true)
    (strap : x.strap = t.ports.strap := by rfl)
    (answers : m.answers = false → Safety.front x = Safety.front t.ports := by first | exact fun _ => rfl | exact fun h => nomatch h) :
    Within m s (t.withPorts x) := by
  constructor
  · exact h.pending
  · exact h.resetting
  · exact h.draws
  · exact strap.trans h.strap
  · exact h.capture
  · exact h.limits
  · exact h.authority
  · exact h.resolver
  · exact h.hold
  · exact h.grid
  · exact h.steering
  · exact h.overload
  · exact h.governor
  · exact h.profile
  · exact fun e => absurd (e.symm.trans may) Bool.false_ne_true
  · exact h.holdMode
  · exact h.gridMode
  · exact h.gridCommit
  · exact h.dumpOn
  · exact h.gridValue
  · exact h.steerCommit
  · exact h.mode
  · exact h.trips
  · exact h.held
  · exact h.record
  · exact h.committed
  · exact fun e => (answers e).trans (h.answers e)

theorem updCtx_within {m : Blocks} {s t : State} {f : HoldContext → HoldContext} (h : Within m s t)
    (may : m.hold = true)
    (holdMode : m.holdMode = false → (f t.hold.ctx).modeSeen = t.hold.ctx.modeSeen := by first | exact fun _ => rfl | exact fun h => nomatch h) :
    Within m s (updCtx f t) :=
  State.withHold_within h may holdMode

theorem updGrid_within {m : Blocks} {s t : State} {f : GridUnit → GridUnit} (h : Within m s t)
    (may : m.grid = true)
    (gridMode : m.gridMode = false → (f t.grid).modeSeen = t.grid.modeSeen := by first | exact fun _ => rfl | exact fun h => nomatch h)
    (gridCommit : m.gridCommit = false → (f t.grid).committed = t.grid.committed := by first | exact fun _ => rfl | exact fun h => nomatch h)
    (dumpOn : m.dumpOn = false → (f t.grid).dumpOn = t.grid.dumpOn := by first | exact fun _ => rfl | exact fun h => nomatch h)
    (gridValue : m.gridValue = false → (f t.grid).gridValue = t.grid.gridValue := by first | exact fun _ => rfl | exact fun h => nomatch h) :
    Within m s (updGrid f t) :=
  State.withGrid_within h may gridMode gridCommit dumpOn gridValue

theorem updSteering_within {m : Blocks} {s t : State} {f : SteeringUnit → SteeringUnit} (h : Within m s t)
    (may : m.steering = true)
    (steerCommit : m.steerCommit = false → (f t.steering).committed = t.steering.committed := by first | exact fun _ => rfl | exact fun h => nomatch h) :
    Within m s (updSteering f t) :=
  State.withSteering_within h may steerCommit

theorem updGovernor_within {m : Blocks} {s t : State} {f : Governor → Governor} (h : Within m s t)
    (may : m.governor = true)
    (mode : m.mode = false → (f t.governor).mode = t.governor.mode := by first | exact fun _ => rfl | exact fun h => nomatch h)
    (trips : m.trips = false → (f t.governor).trips = t.governor.trips := by first | exact fun _ => rfl | exact fun h => nomatch h)
    (held : m.held = false → (f t.governor).authorityHeld = t.governor.authorityHeld := by first | exact fun _ => rfl | exact fun h => nomatch h) :
    Within m s (updGovernor f t) :=
  State.withGovernor_within h may mode trips held

theorem updAuthority_within {m : Blocks} {s t : State} {f : AuthorityUnit → AuthorityUnit} (h : Within m s t)
    (may : m.authority = true)
    (record : m.record = false → (f t.authority).record = t.authority.record := by first | exact fun _ => rfl | exact fun h => nomatch h) :
    Within m s (updAuthority f t) :=
  State.withAuthority_within h may record

theorem updProfile_within {m : Blocks} {s t : State} {f : Profile → Profile} (h : Within m s t)
    (may : m.profile = true)
    (committed : m.committed = false → (f t.profile).committed = t.profile.committed := by first | exact fun _ => rfl | exact fun h => nomatch h) :
    Within m s (updProfile f t) :=
  State.withProfile_within h may committed

/-! ### Ports and notices -/

theorem offer_frame (n : Notice) (s : State) : Within .ofPorts s (offer n s) := by
  have key : ∀ p r, Safety.frontOf (offerAt s.ports.strap n p r) = Safety.frontOf r := by
    intro p r
    unfold offerAt enqueue evalNoticeLine
    repeat' first | rfl | split
  refine State.withPorts_within (.refl _ s) rfl rfl (fun _ => ?_)
  unfold Safety.front
  simp only [key]

theorem offer_within {m : Blocks} {s t : State} {n : Notice} (h : Within m s t)
    (le : Blocks.ofPorts.le m = true) : Within m s (offer n t) :=
  h.trans ((offer_frame n t).mono le)

theorem updPort_frame (p : Port) (f : PortRecord → PortRecord) (s : State) : Within .ofAnswer s (updPort p f s) := by
  unfold updPort
  try dsimp only
  repeat' first
    | with_reducible exact .refl _ _
    | rfl
    | exact fun _ => rfl
    | exact fun h => nomatch h
    | with_reducible apply State.withPorts_within
    | split

theorem updPort_within {m : Blocks} {s t : State} {p : Port} {f : PortRecord → PortRecord} (h : Within m s t)
    (le : Blocks.ofAnswer.le m = true) : Within m s (updPort p f t) :=
  h.trans ((updPort_frame p f t).mono le)

theorem clockOut_frame (p : Port) (n : Nat) (s : State) : Within .ofAnswer s (clockOut p n s) := by
  unfold clockOut
  try dsimp only
  repeat' first
    | with_reducible exact .refl _ _
    | rfl
    | exact fun _ => rfl
    | exact fun h => nomatch h
    | with_reducible apply updPort_within
    | split

theorem clockOut_within {m : Blocks} {s t : State} {p : Port} {n : Nat} (h : Within m s t)
    (le : Blocks.ofAnswer.le m = true) : Within m s (clockOut p n t) :=
  h.trans ((clockOut_frame p n t).mono le)

theorem respond_frame (p : Port) (echo : Byte) (reply : Reply) (s : State) : Within .ofAnswer s (respond p echo reply s) := by
  unfold respond
  try dsimp only
  repeat' first
    | with_reducible exact .refl _ _
    | rfl
    | exact fun _ => rfl
    | exact fun h => nomatch h
    | with_reducible apply updPort_within
    | split

theorem respond_within {m : Blocks} {s t : State} {p : Port} {echo : Byte} {reply : Reply} (h : Within m s t)
    (le : Blocks.ofAnswer.le m = true) : Within m s (respond p echo reply t) :=
  h.trans ((respond_frame p echo reply t).mono le)

/-! ### Envelope Unit -/

theorem noteField_frame (x y : Envelope) (f : EnvField) (s : State) : Within .ofPorts s (noteField x y f s) := by
  unfold noteField
  try dsimp only
  repeat' first
    | with_reducible exact .refl _ _
    | rfl
    | exact fun _ => rfl
    | exact fun h => nomatch h
    | with_reducible apply offer_within
    | split

theorem noteField_within {m : Blocks} {s t : State} {x y : Envelope} {f : EnvField} (h : Within m s t)
    (le : Blocks.ofPorts.le m = true) : Within m s (noteField x y f t) :=
  h.trans ((noteField_frame x y f t).mono le)

theorem withTable_frame (u : LimitUnit) (s : State) : Within .ofTable s (withTable u s) := by
  unfold withTable allFields
  simp only [List.foldl]
  repeat with_reducible apply noteField_within
  · exact State.withLimits_within (Within.refl _ _) rfl
  all_goals rfl

theorem withTable_within {m : Blocks} {s t : State} {u : LimitUnit} (h : Within m s t)
    (le : Blocks.ofTable.le m = true) : Within m s (withTable u t) :=
  h.trans ((withTable_frame u t).mono le)

theorem internalPost_frame (slot value : Nat) (s : State) : Within .ofTable s (internalPost slot value s) := by
  unfold internalPost
  try dsimp only
  repeat' first
    | with_reducible exact .refl _ _
    | rfl
    | exact fun _ => rfl
    | exact fun h => nomatch h
    | with_reducible apply withTable_within
    | split

theorem internalPost_within {m : Blocks} {s t : State} {slot value : Nat} (h : Within m s t)
    (le : Blocks.ofTable.le m = true) : Within m s (internalPost slot value t) :=
  h.trans ((internalPost_frame slot value t).mono le)

theorem internalWithdraw_frame (slot : Nat) (s : State) : Within .ofTable s (internalWithdraw slot s) := by
  unfold internalWithdraw
  try dsimp only
  repeat' first
    | with_reducible exact .refl _ _
    | rfl
    | exact fun _ => rfl
    | exact fun h => nomatch h
    | with_reducible apply withTable_within
    | split

theorem internalWithdraw_within {m : Blocks} {s t : State} {slot : Nat} (h : Within m s t)
    (le : Blocks.ofTable.le m = true) : Within m s (internalWithdraw slot t) :=
  h.trans ((internalWithdraw_frame slot t).mono le)

theorem internalSet_frame (slot : Nat) (value : Option Nat) (s : State) : Within .ofTable s (internalSet slot value s) := by
  unfold internalSet
  try dsimp only
  repeat' first
    | with_reducible exact .refl _ _
    | rfl
    | exact fun _ => rfl
    | exact fun h => nomatch h
    | with_reducible apply internalPost_within
    | with_reducible apply internalWithdraw_within
    | split

theorem internalSet_within {m : Blocks} {s t : State} {slot : Nat} {value : Option Nat} (h : Within m s t)
    (le : Blocks.ofTable.le m = true) : Within m s (internalSet slot value t) :=
  h.trans ((internalSet_frame slot value t).mono le)

theorem limitExpiry_frame (slot : Nat) (s : State) : Within .ofTable s (limitExpiry slot s) := by
  unfold limitExpiry
  try dsimp only
  repeat' first
    | with_reducible exact .refl _ _
    | rfl
    | exact fun _ => rfl
    | exact fun h => nomatch h
    | with_reducible apply withTable_within
    | with_reducible apply offer_within
    | split

theorem limitExpiry_within {m : Blocks} {s t : State} {slot : Nat} (h : Within m s t)
    (le : Blocks.ofTable.le m = true) : Within m s (limitExpiry slot t) :=
  h.trans ((limitExpiry_frame slot t).mono le)

/-! ### Grade Hold Unit -/

@[simp] theorem settleCtx_modeSeen (c : HoldContext) : (settleCtx c).modeSeen = c.modeSeen := by
  unfold settleCtx
  dsimp only
  split <;> rfl

@[simp] theorem staleCtx_modeSeen (holder : Option Party) (fr : Freshness) (st : Bool) (v : Nat)
    (c : HoldContext) : (staleCtx holder fr st v c).modeSeen = c.modeSeen := by
  unfold staleCtx
  split <;> rfl

theorem updBrake_frame (f : BrakeRecord → BrakeRecord) (s : State) : Within .onlyHold s (updBrake f s) := by
  unfold updBrake
  try dsimp only
  repeat' first
    | with_reducible exact .refl _ _
    | rfl
    | exact fun _ => rfl
    | exact fun h => nomatch h
    | with_reducible apply State.withHold_within
    | split

theorem updBrake_within {m : Blocks} {s t : State} {f : BrakeRecord → BrakeRecord} (h : Within m s t)
    (le : Blocks.onlyHold.le m = true) : Within m s (updBrake f t) :=
  h.trans ((updBrake_frame f t).mono le)

theorem evalBrakeLine_frame (s : State) : Within .ofHold s (evalBrakeLine s) := by
  unfold evalBrakeLine
  try dsimp only
  repeat' first
    | with_reducible exact .refl _ _
    | rfl
    | exact fun _ => rfl
    | exact fun h => nomatch h
    | with_reducible apply offer_within
    | with_reducible apply updBrake_within
    | split

theorem evalBrakeLine_within {m : Blocks} {s t : State} (h : Within m s t)
    (le : Blocks.ofHold.le m = true) : Within m s (evalBrakeLine t) :=
  h.trans ((evalBrakeLine_frame t).mono le)

theorem settleHold_frame (s : State) : Within .onlyHold s (settleHold s) := by
  unfold settleHold
  dsimp only
  have h := updCtx_within (f := settleCtx) (Within.refl Blocks.onlyHold s) rfl
    (fun _ => settleCtx_modeSeen _)
  split
  · exact h
  · exact updBrake_within h rfl

theorem settleHold_within {m : Blocks} {s t : State} (h : Within m s t)
    (le : Blocks.onlyHold.le m = true) : Within m s (settleHold t) :=
  h.trans ((settleHold_frame t).mono le)

theorem evalOverspeed_frame (s : State) : Within .onlyHold s (evalOverspeed s) := by
  unfold evalOverspeed
  try dsimp only
  repeat' first
    | with_reducible exact .refl _ _
    | rfl
    | exact fun _ => rfl
    | exact fun h => nomatch h
    | with_reducible apply updBrake_within
    | split

theorem evalOverspeed_within {m : Blocks} {s t : State} (h : Within m s t)
    (le : Blocks.onlyHold.le m = true) : Within m s (evalOverspeed t) :=
  h.trans ((evalOverspeed_frame t).mono le)

theorem evalNoRetard_frame (s : State) : Within .onlyHold s (evalNoRetard s) := by
  unfold evalNoRetard
  try dsimp only
  repeat' first
    | with_reducible exact .refl _ _
    | rfl
    | exact fun _ => rfl
    | exact fun h => nomatch h
    | with_reducible apply updBrake_within
    | split

theorem evalNoRetard_within {m : Blocks} {s t : State} (h : Within m s t)
    (le : Blocks.onlyHold.le m = true) : Within m s (evalNoRetard t) :=
  h.trans ((evalNoRetard_frame t).mono le)

theorem holdAuthorityEvent_frame (s : State) : Within .ofHold s (holdAuthorityEvent s) := by
  unfold holdAuthorityEvent
  dsimp only
  apply evalBrakeLine_within _ rfl
  apply settleHold_within _ rfl
  exact updCtx_within (Within.refl _ s) rfl (fun _ => staleCtx_modeSeen _ _ _ _ _)

theorem holdAuthorityEvent_within {m : Blocks} {s t : State} (h : Within m s t)
    (le : Blocks.ofHold.le m = true) : Within m s (holdAuthorityEvent t) :=
  h.trans ((holdAuthorityEvent_frame t).mono le)

theorem holdModeEvent_frame (new : GovMode) (s : State) : Within .ofHoldMode s (holdModeEvent new s) := by
  unfold holdModeEvent
  try dsimp only
  repeat' first
    | with_reducible exact .refl _ _
    | rfl
    | exact fun _ => rfl
    | exact fun h => nomatch h
    | with_reducible apply evalBrakeLine_within
    | with_reducible apply evalNoRetard_within
    | with_reducible apply settleHold_within
    | with_reducible apply updBrake_within
    | with_reducible apply updCtx_within
    | split

theorem holdModeEvent_within {m : Blocks} {s t : State} {new : GovMode} (h : Within m s t)
    (le : Blocks.ofHoldMode.le m = true) : Within m s (holdModeEvent new t) :=
  h.trans ((holdModeEvent_frame new t).mono le)

theorem holdGridEvent_frame (value : Nat) (s : State) : Within .ofHold s (holdGridEvent value s) := by
  unfold holdGridEvent
  try dsimp only
  repeat' first
    | with_reducible exact .refl _ _
    | rfl
    | exact fun _ => rfl
    | exact fun h => nomatch h
    | with_reducible apply evalBrakeLine_within
    | with_reducible apply evalNoRetard_within
    | with_reducible apply updBrake_within
    | split

theorem holdGridEvent_within {m : Blocks} {s t : State} {value : Nat} (h : Within m s t)
    (le : Blocks.ofHold.le m = true) : Within m s (holdGridEvent value t) :=
  h.trans ((holdGridEvent_frame value t).mono le)

theorem holdPublication_frame (g : Grant) (s : State) : Within .onlyHold s (holdPublication g s) := by
  unfold holdPublication
  try dsimp only
  repeat' first
    | with_reducible exact .refl _ _
    | rfl
    | exact fun _ => rfl
    | exact fun h => nomatch h
    | with_reducible apply evalNoRetard_within
    | with_reducible apply evalOverspeed_within
    | with_reducible apply updCtx_within
    | split

theorem holdPublication_within {m : Blocks} {s t : State} {g : Grant} (h : Within m s t)
    (le : Blocks.onlyHold.le m = true) : Within m s (holdPublication g t) :=
  h.trans ((holdPublication_frame g t).mono le)

theorem updateSources_frame (s : State) : Within .onlyHold s (updateSources s) := by
  unfold updateSources
  try dsimp only
  repeat' first
    | with_reducible exact .refl _ _
    | rfl
    | exact fun _ => rfl
    | exact fun h => nomatch h
    | with_reducible apply updCtx_within
    | split

theorem updateSources_within {m : Blocks} {s t : State} (h : Within m s t)
    (le : Blocks.onlyHold.le m = true) : Within m s (updateSources t) :=
  h.trans ((updateSources_frame t).mono le)

theorem updateEffort_frame (s : State) : Within .onlyHold s (updateEffort s) := by
  unfold updateEffort
  try dsimp only
  repeat' first
    | with_reducible exact .refl _ _
    | rfl
    | exact fun _ => rfl
    | exact fun h => nomatch h
    | with_reducible apply updCtx_within
    | split

theorem updateEffort_within {m : Blocks} {s t : State} (h : Within m s t)
    (le : Blocks.onlyHold.le m = true) : Within m s (updateEffort t) :=
  h.trans ((updateEffort_frame t).mono le)

theorem clearOverspeed_frame (s : State) : Within .onlyHold s (clearOverspeed s) := by
  unfold clearOverspeed
  try dsimp only
  repeat' first
    | with_reducible exact .refl _ _
    | rfl
    | exact fun _ => rfl
    | exact fun h => nomatch h
    | with_reducible apply updBrake_within
    | split

theorem clearOverspeed_within {m : Blocks} {s t : State} (h : Within m s t)
    (le : Blocks.onlyHold.le m = true) : Within m s (clearOverspeed t) :=
  h.trans ((clearOverspeed_frame t).mono le)

theorem holdUpdate_frame (s : State) : Within .ofHold s (holdUpdate s) := by
  unfold holdUpdate
  try dsimp only
  repeat' first
    | with_reducible exact .refl _ _
    | rfl
    | exact fun _ => rfl
    | exact fun h => nomatch h
    | with_reducible apply evalBrakeLine_within
    | with_reducible apply evalOverspeed_within
    | with_reducible apply clearOverspeed_within
    | with_reducible apply updateEffort_within
    | with_reducible apply settleHold_within
    | with_reducible apply updateSources_within
    | with_reducible apply updCtx_within
    | split

theorem holdUpdate_within {m : Blocks} {s t : State} (h : Within m s t)
    (le : Blocks.ofHold.le m = true) : Within m s (holdUpdate t) :=
  h.trans ((holdUpdate_frame t).mono le)

theorem overspeedExpiry_frame (s : State) : Within .ofHold s (overspeedExpiry s) := by
  unfold overspeedExpiry
  try dsimp only
  repeat' first
    | with_reducible exact .refl _ _
    | rfl
    | exact fun _ => rfl
    | exact fun h => nomatch h
    | with_reducible apply evalBrakeLine_within
    | with_reducible apply updBrake_within
    | split

theorem overspeedExpiry_within {m : Blocks} {s t : State} (h : Within m s t)
    (le : Blocks.ofHold.le m = true) : Within m s (overspeedExpiry t) :=
  h.trans ((overspeedExpiry_frame t).mono le)

theorem noRetardExpiry_frame (s : State) : Within .ofHold s (noRetardExpiry s) := by
  unfold noRetardExpiry
  try dsimp only
  repeat' first
    | with_reducible exact .refl _ _
    | rfl
    | exact fun _ => rfl
    | exact fun h => nomatch h
    | with_reducible apply evalBrakeLine_within
    | with_reducible apply updBrake_within
    | split

theorem noRetardExpiry_within {m : Blocks} {s t : State} (h : Within m s t)
    (le : Blocks.ofHold.le m = true) : Within m s (noRetardExpiry t) :=
  h.trans ((noRetardExpiry_frame t).mono le)

/-! ### Steering Monitor -/

theorem readAngle_frame (s : State) : Within .onlySteering s (readAngle s) := by
  unfold readAngle
  try dsimp only
  repeat' first
    | with_reducible exact .refl _ _
    | rfl
    | exact fun _ => rfl
    | exact fun h => nomatch h
    | with_reducible apply updSteering_within
    | split

theorem readAngle_within {m : Blocks} {s t : State} (h : Within m s t)
    (le : Blocks.onlySteering.le m = true) : Within m s (readAngle t) :=
  h.trans ((readAngle_frame t).mono le)

theorem evalSteer_frame (s : State) : Within .ofSteering s (evalSteer s) := by
  unfold evalSteer
  try dsimp only
  repeat' first
    | with_reducible exact .refl _ _
    | rfl
    | exact fun _ => rfl
    | exact fun h => nomatch h
    | with_reducible apply internalSet_within
    | with_reducible apply updSteering_within
    | split

theorem evalSteer_within {m : Blocks} {s t : State} (h : Within m s t)
    (le : Blocks.ofSteering.le m = true) : Within m s (evalSteer t) :=
  h.trans ((evalSteer_frame t).mono le)

theorem updSlip_frame (w : Wheel) (f : SlipRecord → SlipRecord) (s : State) : Within .onlySteering s (updSlip w f s) := by
  unfold updSlip
  try dsimp only
  repeat' first
    | with_reducible exact .refl _ _
    | rfl
    | exact fun _ => rfl
    | exact fun h => nomatch h
    | with_reducible apply updSteering_within
    | split

theorem updSlip_within {m : Blocks} {s t : State} {w : Wheel} {f : SlipRecord → SlipRecord} (h : Within m s t)
    (le : Blocks.onlySteering.le m = true) : Within m s (updSlip w f t) :=
  h.trans ((updSlip_frame w f t).mono le)

theorem slipNotice_frame (w : Wheel) (cause : SlipCause) (s : State) : Within .ofPorts s (slipNotice w cause s) := by
  unfold slipNotice
  try dsimp only
  repeat' first
    | with_reducible exact .refl _ _
    | rfl
    | exact fun _ => rfl
    | exact fun h => nomatch h
    | with_reducible apply offer_within
    | split

theorem slipNotice_within {m : Blocks} {s t : State} {w : Wheel} {cause : SlipCause} (h : Within m s t)
    (le : Blocks.ofPorts.le m = true) : Within m s (slipNotice w cause t) :=
  h.trans ((slipNotice_frame w cause t).mono le)

theorem postCap_frame (w : Wheel) (dm : DriveMode) (cap : Nat) (s : State) : Within .ofSteering s (postCap w dm cap s) := by
  unfold postCap
  try dsimp only
  repeat' first
    | with_reducible exact .refl _ _
    | rfl
    | exact fun _ => rfl
    | exact fun h => nomatch h
    | with_reducible apply internalPost_within
    | with_reducible apply updSlip_within
    | split

theorem postCap_within {m : Blocks} {s t : State} {w : Wheel} {dm : DriveMode} {cap : Nat} (h : Within m s t)
    (le : Blocks.ofSteering.le m = true) : Within m s (postCap w dm cap t) :=
  h.trans ((postCap_frame w dm cap t).mono le)

theorem endSlip_frame (w : Wheel) (cause : SlipCause) (s : State) : Within .ofSteering s (endSlip w cause s) := by
  unfold endSlip
  try dsimp only
  repeat' first
    | with_reducible exact .refl _ _
    | rfl
    | exact fun _ => rfl
    | exact fun h => nomatch h
    | with_reducible apply slipNotice_within
    | with_reducible apply updSlip_within
    | with_reducible apply internalWithdraw_within
    | split

theorem endSlip_within {m : Blocks} {s t : State} {w : Wheel} {cause : SlipCause} (h : Within m s t)
    (le : Blocks.ofSteering.le m = true) : Within m s (endSlip w cause t) :=
  h.trans ((endSlip_frame w cause t).mono le)

theorem moveSlip_frame (w : Wheel) (st : SlipState) (cause : SlipCause) (s : State) : Within .ofSteering s (moveSlip w st cause s) := by
  unfold moveSlip
  try dsimp only
  repeat' first
    | with_reducible exact .refl _ _
    | rfl
    | exact fun _ => rfl
    | exact fun h => nomatch h
    | with_reducible apply slipNotice_within
    | with_reducible apply updSlip_within
    | split

theorem moveSlip_within {m : Blocks} {s t : State} {w : Wheel} {st : SlipState} {cause : SlipCause} (h : Within m s t)
    (le : Blocks.ofSteering.le m = true) : Within m s (moveSlip w st cause t) :=
  h.trans ((moveSlip_frame w st cause t).mono le)

theorem restoreSlip_frame (w : Wheel) (dm : DriveMode) (cap : Nat) (cause : SlipCause) (s : State) : Within .ofSteering s (restoreSlip w dm cap cause s) := by
  unfold restoreSlip
  try dsimp only
  repeat' first
    | with_reducible exact .refl _ _
    | rfl
    | exact fun _ => rfl
    | exact fun h => nomatch h
    | with_reducible apply endSlip_within
    | with_reducible apply postCap_within
    | split

theorem restoreSlip_within {m : Blocks} {s t : State} {w : Wheel} {dm : DriveMode} {cap : Nat} {cause : SlipCause} (h : Within m s t)
    (le : Blocks.ofSteering.le m = true) : Within m s (restoreSlip w dm cap cause t) :=
  h.trans ((restoreSlip_frame w dm cap cause t).mono le)

theorem suspendedRun_frame (w : Wheel) (s : State) : Within .ofSteering s (suspendedRun w s) := by
  unfold suspendedRun
  try dsimp only
  repeat' first
    | with_reducible exact .refl _ _
    | rfl
    | exact fun _ => rfl
    | exact fun h => nomatch h
    | with_reducible apply slipNotice_within
    | with_reducible apply updSlip_within
    | with_reducible apply moveSlip_within
    | with_reducible apply restoreSlip_within
    | split

theorem suspendedRun_within {m : Blocks} {s t : State} {w : Wheel} (h : Within m s t)
    (le : Blocks.ofSteering.le m = true) : Within m s (suspendedRun w t) :=
  h.trans ((suspendedRun_frame w t).mono le)

theorem slipMove_frame (w : Wheel) (dm : DriveMode) (found : Finding) (s : State) : Within .ofSteering s (slipMove w dm found s) := by
  unfold slipMove
  try dsimp only
  repeat' first
    | with_reducible exact .refl _ _
    | rfl
    | exact fun _ => rfl
    | exact fun h => nomatch h
    | with_reducible apply slipNotice_within
    | with_reducible apply updSlip_within
    | with_reducible apply moveSlip_within
    | with_reducible apply postCap_within
    | with_reducible apply restoreSlip_within
    | split

theorem slipMove_within {m : Blocks} {s t : State} {w : Wheel} {dm : DriveMode} {found : Finding} (h : Within m s t)
    (le : Blocks.ofSteering.le m = true) : Within m s (slipMove w dm found t) :=
  h.trans ((slipMove_frame w dm found t).mono le)

theorem judgedRun_frame (w : Wheel) (s : State) : Within .ofSteering s (judgedRun w s) := by
  unfold judgedRun
  try dsimp only
  repeat' first
    | with_reducible exact .refl _ _
    | rfl
    | exact fun _ => rfl
    | exact fun h => nomatch h
    | with_reducible apply slipMove_within
    | with_reducible apply updSlip_within
    | split

theorem judgedRun_within {m : Blocks} {s t : State} {w : Wheel} (h : Within m s t)
    (le : Blocks.ofSteering.le m = true) : Within m s (judgedRun w t) :=
  h.trans ((judgedRun_frame w t).mono le)

theorem detectSlip_frame (w : Wheel) (s : State) : Within .ofSteering s (detectSlip w s) := by
  unfold detectSlip
  try dsimp only
  repeat' first
    | with_reducible exact .refl _ _
    | rfl
    | exact fun _ => rfl
    | exact fun h => nomatch h
    | with_reducible apply suspendedRun_within
    | with_reducible apply judgedRun_within
    | split

theorem detectSlip_within {m : Blocks} {s t : State} {w : Wheel} (h : Within m s t)
    (le : Blocks.ofSteering.le m = true) : Within m s (detectSlip w t) :=
  h.trans ((detectSlip_frame w t).mono le)

theorem steeringRun_frame (s : State) : Within .ofSteering s (steeringRun s) := by
  unfold steeringRun
  try dsimp only
  repeat' first
    | with_reducible exact .refl _ _
    | rfl
    | exact fun _ => rfl
    | exact fun h => nomatch h
    | with_reducible apply detectSlip_within
    | with_reducible apply evalSteer_within
    | with_reducible apply readAngle_within
    | with_reducible apply updSteering_within
    | split

theorem steeringRun_within {m : Blocks} {s t : State} (h : Within m s t)
    (le : Blocks.ofSteering.le m = true) : Within m s (steeringRun t) :=
  h.trans ((steeringRun_frame t).mono le)

theorem slipModeChange_frame (g : GrantMode) (w : Wheel) (s : State) : Within .ofSteering s (slipModeChange g w s) := by
  unfold slipModeChange
  try dsimp only
  repeat' first
    | with_reducible exact .refl _ _
    | rfl
    | exact fun _ => rfl
    | exact fun h => nomatch h
    | with_reducible apply endSlip_within
    | split

theorem slipModeChange_within {m : Blocks} {s t : State} {g : GrantMode} {w : Wheel} (h : Within m s t)
    (le : Blocks.ofSteering.le m = true) : Within m s (slipModeChange g w t) :=
  h.trans ((slipModeChange_frame g w t).mono le)

theorem steeringPublication_frame (g : Grant) (s : State) : Within .ofSteering s (steeringPublication g s) := by
  unfold steeringPublication
  try dsimp only
  repeat' first
    | with_reducible exact .refl _ _
    | rfl
    | exact fun _ => rfl
    | exact fun h => nomatch h
    | with_reducible apply slipModeChange_within
    | with_reducible apply updSteering_within
    | split

theorem steeringPublication_within {m : Blocks} {s t : State} {g : Grant} (h : Within m s t)
    (le : Blocks.ofSteering.le m = true) : Within m s (steeringPublication g t) :=
  h.trans ((steeringPublication_frame g t).mono le)

/-! ### Grid Drive Unit -/

theorem updBank_frame (b : BankId) (f : Bank → Bank) (s : State) : Within .onlyGrid s (updBank b f s) := by
  unfold updBank
  try dsimp only
  repeat' first
    | with_reducible exact .refl _ _
    | rfl
    | exact fun _ => rfl
    | exact fun h => nomatch h
    | with_reducible apply updGrid_within
    | split

theorem updBank_within {m : Blocks} {s t : State} {b : BankId} {f : Bank → Bank} (h : Within m s t)
    (le : Blocks.onlyGrid.le m = true) : Within m s (updBank b f t) :=
  h.trans ((updBank_frame b f t).mono le)

theorem bankNotice_frame (b : BankId) (cause : BankCause) (s : State) : Within .ofPorts s (bankNotice b cause s) := by
  unfold bankNotice
  try dsimp only
  repeat' first
    | with_reducible exact .refl _ _
    | rfl
    | exact fun _ => rfl
    | exact fun h => nomatch h
    | with_reducible apply offer_within
    | split

theorem bankNotice_within {m : Blocks} {s t : State} {b : BankId} {cause : BankCause} (h : Within m s t)
    (le : Blocks.ofPorts.le m = true) : Within m s (bankNotice b cause t) :=
  h.trans ((bankNotice_frame b cause t).mono le)

theorem postGrid_frame (g : GridUnit) (s : State) : Within .ofGridPost s (postGrid g s) := by
  unfold postGrid
  try dsimp only
  repeat' first
    | with_reducible exact .refl _ _
    | rfl
    | exact fun _ => rfl
    | exact fun h => nomatch h
    | with_reducible apply holdGridEvent_within
    | with_reducible apply internalPost_within
    | with_reducible apply updGrid_within
    | split

theorem postGrid_within {m : Blocks} {s t : State} {g : GridUnit} (h : Within m s t)
    (le : Blocks.ofGridPost.le m = true) : Within m s (postGrid g t) :=
  h.trans ((postGrid_frame g t).mono le)

theorem closeTest_frame (b : BankId) (cause : BankCause) (s : State) : Within .ofGrid s (closeTest b cause s) := by
  unfold closeTest
  try dsimp only
  repeat' first
    | with_reducible exact .refl _ _
    | rfl
    | exact fun _ => rfl
    | exact fun h => nomatch h
    | with_reducible apply bankNotice_within
    | with_reducible apply updBank_within
    | split

theorem closeTest_within {m : Blocks} {s t : State} {b : BankId} {cause : BankCause} (h : Within m s t)
    (le : Blocks.ofGrid.le m = true) : Within m s (closeTest b cause t) :=
  h.trans ((closeTest_frame b cause t).mono le)

theorem openWatch_frame (b : BankId) (s : State) : Within .onlyGrid s (openWatch b s) := by
  unfold openWatch
  try dsimp only
  repeat' first
    | with_reducible exact .refl _ _
    | rfl
    | exact fun _ => rfl
    | exact fun h => nomatch h
    | with_reducible apply updBank_within
    | split

theorem openWatch_within {m : Blocks} {s t : State} {b : BankId} (h : Within m s t)
    (le : Blocks.onlyGrid.le m = true) : Within m s (openWatch b t) :=
  h.trans ((openWatch_frame b t).mono le)

theorem enterOpen_frame (b : BankId) (cause : BankCause) (s : State) : Within .ofGrid s (enterOpen b cause s) := by
  unfold enterOpen
  try dsimp only
  repeat' first
    | with_reducible exact .refl _ _
    | rfl
    | exact fun _ => rfl
    | exact fun h => nomatch h
    | with_reducible apply closeTest_within
    | with_reducible apply openWatch_within
    | with_reducible apply bankNotice_within
    | with_reducible apply updBank_within
    | split

theorem enterOpen_within {m : Blocks} {s t : State} {b : BankId} {cause : BankCause} (h : Within m s t)
    (le : Blocks.ofGrid.le m = true) : Within m s (enterOpen b cause t) :=
  h.trans ((enterOpen_frame b cause t).mono le)

theorem askOpen_frame (b : BankId) (cause : BankCause) (s : State) : Within .ofGrid s (askOpen b cause s) := by
  unfold askOpen
  try dsimp only
  repeat' first
    | with_reducible exact .refl _ _
    | rfl
    | exact fun _ => rfl
    | exact fun h => nomatch h
    | with_reducible apply enterOpen_within
    | with_reducible apply updBank_within
    | split

theorem askOpen_within {m : Blocks} {s t : State} {b : BankId} {cause : BankCause} (h : Within m s t)
    (le : Blocks.ofGrid.le m = true) : Within m s (askOpen b cause t) :=
  h.trans ((askOpen_frame b cause t).mono le)

theorem bankIntoActive_frame (b : BankId) (s : State) : Within .ofGrid s (bankIntoActive b s) := by
  unfold bankIntoActive
  try dsimp only
  repeat' first
    | with_reducible exact .refl _ _
    | rfl
    | exact fun _ => rfl
    | exact fun h => nomatch h
    | with_reducible apply updBank_within
    | with_reducible apply closeTest_within
    | split

theorem bankIntoActive_within {m : Blocks} {s t : State} {b : BankId} (h : Within m s t)
    (le : Blocks.ofGrid.le m = true) : Within m s (bankIntoActive b t) :=
  h.trans ((bankIntoActive_frame b t).mono le)

theorem gridModeEvent_frame (new : GovMode) (s : State) : Within .ofGridMode s (gridModeEvent new s) := by
  unfold gridModeEvent
  try dsimp only
  repeat' first
    | with_reducible exact .refl _ _
    | rfl
    | exact fun _ => rfl
    | exact fun h => nomatch h
    | with_reducible apply bankIntoActive_within
    | with_reducible apply askOpen_within
    | with_reducible apply updGrid_within
    | split

theorem gridModeEvent_within {m : Blocks} {s t : State} {new : GovMode} (h : Within m s t)
    (le : Blocks.ofGridMode.le m = true) : Within m s (gridModeEvent new t) :=
  h.trans ((gridModeEvent_frame new t).mono le)

theorem completeOpen_frame (b : BankId) (s : State) : Within .ofGrid s (completeOpen b s) := by
  unfold completeOpen
  try dsimp only
  repeat' first
    | with_reducible exact .refl _ _
    | rfl
    | exact fun _ => rfl
    | exact fun h => nomatch h
    | with_reducible apply bankNotice_within
    | with_reducible apply updBank_within
    | with_reducible apply enterOpen_within
    | split

theorem completeOpen_within {m : Blocks} {s t : State} {b : BankId} (h : Within m s t)
    (le : Blocks.ofGrid.le m = true) : Within m s (completeOpen b t) :=
  h.trans ((completeOpen_frame b t).mono le)

theorem boundaryEvent_frame (b : BankId) (s : State) : Within .ofGrid s (boundaryEvent b s) := by
  unfold boundaryEvent
  try dsimp only
  repeat' first
    | with_reducible exact .refl _ _
    | rfl
    | exact fun _ => rfl
    | exact fun h => nomatch h
    | with_reducible apply updBank_within
    | with_reducible apply completeOpen_within
    | split

theorem boundaryEvent_within {m : Blocks} {s t : State} {b : BankId} (h : Within m s t)
    (le : Blocks.ofGrid.le m = true) : Within m s (boundaryEvent b t) :=
  h.trans ((boundaryEvent_frame b t).mono le)

theorem onTimeEnd_frame (b : BankId) (s : State) : Within .onlyGrid s (onTimeEnd b s) := by
  unfold onTimeEnd
  try dsimp only
  repeat' first
    | with_reducible exact .refl _ _
    | rfl
    | exact fun _ => rfl
    | exact fun h => nomatch h
    | with_reducible apply updBank_within
    | split

theorem onTimeEnd_within {m : Blocks} {s t : State} {b : BankId} (h : Within m s t)
    (le : Blocks.onlyGrid.le m = true) : Within m s (onTimeEnd b t) :=
  h.trans ((onTimeEnd_frame b t).mono le)

theorem gridPublication_frame (g : Grant) (s : State) : Within .onlyGrid s (gridPublication g s) := by
  unfold gridPublication
  try dsimp only
  repeat' first
    | with_reducible exact .refl _ _
    | rfl
    | exact fun _ => rfl
    | exact fun h => nomatch h
    | with_reducible apply updBank_within
    | with_reducible apply updGrid_within
    | split

theorem gridPublication_within {m : Blocks} {s t : State} {g : Grant} (h : Within m s t)
    (le : Blocks.onlyGrid.le m = true) : Within m s (gridPublication g t) :=
  h.trans ((gridPublication_frame g t).mono le)

theorem dumpStart_frame (s : State) : Within .onlyDump s (dumpStart s) := by
  unfold dumpStart
  try dsimp only
  repeat' first
    | with_reducible exact .refl _ _
    | rfl
    | exact fun _ => rfl
    | exact fun h => nomatch h
    | with_reducible apply updBank_within
    | with_reducible apply updGrid_within
    | split

theorem dumpStart_within {m : Blocks} {s t : State} (h : Within m s t)
    (le : Blocks.onlyDump.le m = true) : Within m s (dumpStart t) :=
  h.trans ((dumpStart_frame t).mono le)

theorem dumpEnd_frame (s : State) : Within .onlyDump s (dumpEnd s) := by
  unfold dumpEnd
  try dsimp only
  repeat' first
    | with_reducible exact .refl _ _
    | rfl
    | exact fun _ => rfl
    | exact fun h => nomatch h
    | with_reducible apply updBank_within
    | with_reducible apply updGrid_within
    | split

theorem dumpEnd_within {m : Blocks} {s t : State} (h : Within m s t)
    (le : Blocks.onlyDump.le m = true) : Within m s (dumpEnd t) :=
  h.trans ((dumpEnd_frame t).mono le)

theorem bankLevelEvent_frame (b : BankId) (level : Level) (derate : Nat) (s : State) : Within .ofGrid s (bankLevelEvent b level derate s) := by
  unfold bankLevelEvent
  try dsimp only
  repeat' first
    | with_reducible exact .refl _ _
    | rfl
    | exact fun _ => rfl
    | exact fun h => nomatch h
    | with_reducible apply updBank_within
    | with_reducible apply askOpen_within
    | with_reducible apply closeTest_within
    | split

theorem bankLevelEvent_within {m : Blocks} {s t : State} {b : BankId} {level : Level} {derate : Nat} (h : Within m s t)
    (le : Blocks.ofGrid.le m = true) : Within m s (bankLevelEvent b level derate t) :=
  h.trans ((bankLevelEvent_frame b level derate t).mono le)

/-! ### Effort Resolver and Governor Control -/

theorem publish_frame (g : Grant) (s : State) : Within .ofPublication s (publish g s) := by
  unfold publish
  try dsimp only
  repeat' first
    | with_reducible exact .refl _ _
    | rfl
    | exact fun _ => rfl
    | exact fun h => nomatch h
    | with_reducible apply steeringPublication_within
    | with_reducible apply holdPublication_within
    | with_reducible apply gridPublication_within
    | with_reducible apply State.withResolver_within
    | split

theorem publish_within {m : Blocks} {s t : State} {g : Grant} (h : Within m s t)
    (le : Blocks.ofPublication.le m = true) : Within m s (publish g t) :=
  h.trans ((publish_frame g t).mono le)

theorem resolutionExpiry_frame (s : State) : Within .ofPublication s (resolutionExpiry s) := by
  unfold resolutionExpiry
  try dsimp only
  repeat' first
    | with_reducible exact .refl _ _
    | rfl
    | exact fun _ => rfl
    | exact fun h => nomatch h
    | with_reducible apply publish_within
    | with_reducible apply State.withResolver_within
    | split

theorem resolutionExpiry_within {m : Blocks} {s t : State} (h : Within m s t)
    (le : Blocks.ofPublication.le m = true) : Within m s (resolutionExpiry t) :=
  h.trans ((resolutionExpiry_frame t).mono le)

theorem setMode_frame (new : GovMode) (cause : ModeCause) (s : State) : Within .ofSetMode s (setMode new cause s) := by
  unfold setMode
  try dsimp only
  repeat' first
    | with_reducible exact .refl _ _
    | rfl
    | exact fun _ => rfl
    | exact fun h => nomatch h
    | with_reducible apply offer_within
    | with_reducible apply updGovernor_within
    | split

theorem setMode_within {m : Blocks} {s t : State} {new : GovMode} {cause : ModeCause} (h : Within m s t)
    (le : Blocks.ofSetMode.le m = true) : Within m s (setMode new cause t) :=
  h.trans ((setMode_frame new cause t).mono le)

theorem changeMode_frame (new : GovMode) (cause : ModeCause) (s : State) : Within .ofMode s (changeMode new cause s) := by
  unfold changeMode
  try dsimp only
  repeat' first
    | with_reducible exact .refl _ _
    | rfl
    | exact fun _ => rfl
    | exact fun h => nomatch h
    | with_reducible apply gridModeEvent_within
    | with_reducible apply publish_within
    | with_reducible apply holdModeEvent_within
    | with_reducible apply setMode_within
    | split

theorem changeMode_within {m : Blocks} {s t : State} {new : GovMode} {cause : ModeCause} (h : Within m s t)
    (le : Blocks.ofMode.le m = true) : Within m s (changeMode new cause t) :=
  h.trans ((changeMode_frame new cause t).mono le)

theorem authorityEvent_frame (held : Bool) (s : State) : Within .ofAuthEvent s (authorityEvent held s) := by
  unfold authorityEvent
  try dsimp only
  repeat' first
    | with_reducible exact .refl _ _
    | rfl
    | exact fun _ => rfl
    | exact fun h => nomatch h
    | with_reducible apply changeMode_within
    | with_reducible apply updGovernor_within
    | split

theorem authorityEvent_within {m : Blocks} {s t : State} {held : Bool} (h : Within m s t)
    (le : Blocks.ofAuthEvent.le m = true) : Within m s (authorityEvent held t) :=
  h.trans ((authorityEvent_frame held t).mono le)

theorem latchRecord_frame (c : TripCause) (s : State) : Within .onlyTrips s (latchRecord c s) := by
  unfold latchRecord
  try dsimp only
  repeat' first
    | with_reducible exact .refl _ _
    | rfl
    | exact fun _ => rfl
    | exact fun h => nomatch h
    | with_reducible apply updGovernor_within
    | split

theorem latchRecord_within {m : Blocks} {s t : State} {c : TripCause} (h : Within m s t)
    (le : Blocks.onlyTrips.le m = true) : Within m s (latchRecord c t) :=
  h.trans ((latchRecord_frame c t).mono le)

theorem latch_frame (c : TripCause) (s : State) : Within .ofLatch s (latch c s) := by
  unfold latch
  try dsimp only
  repeat' first
    | with_reducible exact .refl _ _
    | rfl
    | exact fun _ => rfl
    | exact fun h => nomatch h
    | with_reducible apply changeMode_within
    | with_reducible apply internalPost_within
    | with_reducible apply offer_within
    | with_reducible apply latchRecord_within
    | split

theorem latch_within {m : Blocks} {s t : State} {c : TripCause} (h : Within m s t)
    (le : Blocks.ofLatch.le m = true) : Within m s (latch c t) :=
  h.trans ((latch_frame c t).mono le)

/-! ### Contactor events -/

theorem failBank_frame (b : BankId) (cause : FailCause) (why : BankCause) (s : State) : Within .ofLatch s (failBank b cause why s) := by
  unfold failBank
  try dsimp only
  repeat' first
    | with_reducible exact .refl _ _
    | rfl
    | exact fun _ => rfl
    | exact fun h => nomatch h
    | with_reducible apply latch_within
    | with_reducible apply bankNotice_within
    | with_reducible apply updBank_within
    | split

theorem failBank_within {m : Blocks} {s t : State} {b : BankId} {cause : FailCause} {why : BankCause} (h : Within m s t)
    (le : Blocks.ofLatch.le m = true) : Within m s (failBank b cause why t) :=
  h.trans ((failBank_frame b cause why t).mono le)

theorem feedbackRise_frame (b : BankId) (s : State) : Within .ofGrid s (feedbackRise b s) := by
  unfold feedbackRise
  try dsimp only
  repeat' first
    | with_reducible exact .refl _ _
    | rfl
    | exact fun _ => rfl
    | exact fun h => nomatch h
    | with_reducible apply openWatch_within
    | with_reducible apply bankNotice_within
    | with_reducible apply updBank_within
    | split

theorem feedbackRise_within {m : Blocks} {s t : State} {b : BankId} (h : Within m s t)
    (le : Blocks.ofGrid.le m = true) : Within m s (feedbackRise b t) :=
  h.trans ((feedbackRise_frame b t).mono le)

theorem feedbackFall_frame (b : BankId) (s : State) : Within .ofLatch s (feedbackFall b s) := by
  unfold feedbackFall
  try dsimp only
  repeat' first
    | with_reducible exact .refl _ _
    | rfl
    | exact fun _ => rfl
    | exact fun h => nomatch h
    | with_reducible apply closeTest_within
    | with_reducible apply failBank_within
    | with_reducible apply enterOpen_within
    | with_reducible apply updBank_within
    | split

theorem feedbackFall_within {m : Blocks} {s t : State} {b : BankId} (h : Within m s t)
    (le : Blocks.ofLatch.le m = true) : Within m s (feedbackFall b t) :=
  h.trans ((feedbackFall_frame b t).mono le)

theorem handshakeExpiry_frame (b : BankId) (s : State) : Within .ofLatch s (handshakeExpiry b s) := by
  unfold handshakeExpiry
  try dsimp only
  repeat' first
    | with_reducible exact .refl _ _
    | rfl
    | exact fun _ => rfl
    | exact fun h => nomatch h
    | with_reducible apply failBank_within
    | with_reducible apply updBank_within
    | split

theorem handshakeExpiry_within {m : Blocks} {s t : State} {b : BankId} (h : Within m s t)
    (le : Blocks.ofLatch.le m = true) : Within m s (handshakeExpiry b t) :=
  h.trans ((handshakeExpiry_frame b t).mono le)

theorem clearBank_frame (b : BankId) (s : State) : Within .ofGrid s (clearBank b s) := by
  unfold clearBank
  try dsimp only
  repeat' first
    | with_reducible exact .refl _ _
    | rfl
    | exact fun _ => rfl
    | exact fun h => nomatch h
    | with_reducible apply enterOpen_within
    | split

theorem clearBank_within {m : Blocks} {s t : State} {b : BankId} (h : Within m s t)
    (le : Blocks.ofGrid.le m = true) : Within m s (clearBank b t) :=
  h.trans ((clearBank_frame b t).mono le)

/-! ### Overload Monitor -/

theorem updOverload_frame (f : OverloadUnit → OverloadUnit) (s : State) : Within .onlyOverload s (updOverload f s) := by
  unfold updOverload
  try dsimp only
  repeat' first
    | with_reducible exact .refl _ _
    | rfl
    | exact fun _ => rfl
    | exact fun h => nomatch h
    | with_reducible apply State.withOverload_within
    | split

theorem updOverload_within {m : Blocks} {s t : State} {f : OverloadUnit → OverloadUnit} (h : Within m s t)
    (le : Blocks.onlyOverload.le m = true) : Within m s (updOverload f t) :=
  h.trans ((updOverload_frame f t).mono le)

theorem updIntegrator_frame (e : Element) (f : Integrator → Integrator) (s : State) : Within .onlyOverload s (updIntegrator e f s) := by
  unfold updIntegrator
  try dsimp only
  repeat' first
    | with_reducible exact .refl _ _
    | rfl
    | exact fun _ => rfl
    | exact fun h => nomatch h
    | with_reducible apply updOverload_within
    | split

theorem updIntegrator_within {m : Blocks} {s t : State} {e : Element} {f : Integrator → Integrator} (h : Within m s t)
    (le : Blocks.onlyOverload.le m = true) : Within m s (updIntegrator e f t) :=
  h.trans ((updIntegrator_frame e f t).mono le)

theorem thermalEffects_frame (e : Element) (i : Integrator) (s : State) : Within .ofThermal s (thermalEffects e i s) := by
  unfold thermalEffects
  try dsimp only
  repeat' first
    | with_reducible exact .refl _ _
    | rfl
    | exact fun _ => rfl
    | exact fun h => nomatch h
    | with_reducible apply internalSet_within
    | with_reducible apply bankLevelEvent_within
    | split

theorem thermalEffects_within {m : Blocks} {s t : State} {e : Element} {i : Integrator} (h : Within m s t)
    (le : Blocks.ofThermal.le m = true) : Within m s (thermalEffects e i t) :=
  h.trans ((thermalEffects_frame e i t).mono le)

theorem levelNotice_frame (e : Element) (cause : LevelCause) (s : State) : Within .ofPorts s (levelNotice e cause s) := by
  unfold levelNotice
  try dsimp only
  repeat' first
    | with_reducible exact .refl _ _
    | rfl
    | exact fun _ => rfl
    | exact fun h => nomatch h
    | with_reducible apply offer_within
    | split

theorem levelNotice_within {m : Blocks} {s t : State} {e : Element} {cause : LevelCause} (h : Within m s t)
    (le : Blocks.ofPorts.le m = true) : Within m s (levelNotice e cause t) :=
  h.trans ((levelNotice_frame e cause t).mono le)

theorem setLevel_frame (e : Element) (level : Level) (dwell : Timer) (s : State) : Within .onlyOverload s (setLevel e level dwell s) := by
  unfold setLevel
  try dsimp only
  repeat' first
    | with_reducible exact .refl _ _
    | rfl
    | exact fun _ => rfl
    | exact fun h => nomatch h
    | with_reducible apply updIntegrator_within
    | split

theorem setLevel_within {m : Blocks} {s t : State} {e : Element} {level : Level} {dwell : Timer} (h : Within m s t)
    (le : Blocks.onlyOverload.le m = true) : Within m s (setLevel e level dwell t) :=
  h.trans ((setLevel_frame e level dwell t).mono le)

theorem ladderStep_frame (e : Element) (i : Integrator) (s : State) : Within .ofOverload s (ladderStep e i s) := by
  unfold ladderStep
  try dsimp only
  repeat' first
    | with_reducible exact .refl _ _
    | rfl
    | exact fun _ => rfl
    | exact fun h => nomatch h
    | with_reducible apply thermalEffects_within
    | with_reducible apply latch_within
    | with_reducible apply levelNotice_within
    | with_reducible apply setLevel_within
    | split

theorem ladderStep_within {m : Blocks} {s t : State} {e : Element} {i : Integrator} (h : Within m s t)
    (le : Blocks.ofOverload.le m = true) : Within m s (ladderStep e i t) :=
  h.trans ((ladderStep_frame e i t).mono le)

theorem heatAll_frame (s : State) : Within .onlyOverload s (heatAll s) := by
  unfold heatAll
  try dsimp only
  repeat' first
    | with_reducible exact .refl _ _
    | rfl
    | exact fun _ => rfl
    | exact fun h => nomatch h
    | with_reducible apply updOverload_within
    | split

theorem heatAll_within {m : Blocks} {s t : State} (h : Within m s t)
    (le : Blocks.onlyOverload.le m = true) : Within m s (heatAll t) :=
  h.trans ((heatAll_frame t).mono le)

theorem overloadUpdate_frame (s : State) : Within .ofOverload s (overloadUpdate s) := by
  unfold overloadUpdate
  try dsimp only
  repeat' first
    | with_reducible exact .refl _ _
    | rfl
    | exact fun _ => rfl
    | exact fun h => nomatch h
    | with_reducible apply ladderStep_within
    | with_reducible apply heatAll_within
    | with_reducible apply updOverload_within
    | split

theorem overloadUpdate_within {m : Blocks} {s t : State} (h : Within m s t)
    (le : Blocks.ofOverload.le m = true) : Within m s (overloadUpdate t) :=
  h.trans ((overloadUpdate_frame t).mono le)

theorem dwellExpiry_frame (e : Element) (s : State) : Within .ofThermalAll s (dwellExpiry e s) := by
  unfold dwellExpiry
  try dsimp only
  repeat' first
    | with_reducible exact .refl _ _
    | rfl
    | exact fun _ => rfl
    | exact fun h => nomatch h
    | with_reducible apply thermalEffects_within
    | with_reducible apply levelNotice_within
    | with_reducible apply setLevel_within
    | with_reducible apply updIntegrator_within
    | split

theorem dwellExpiry_within {m : Blocks} {s t : State} {e : Element} (h : Within m s t)
    (le : Blocks.ofThermalAll.le m = true) : Within m s (dwellExpiry e t) :=
  h.trans ((dwellExpiry_frame e t).mono le)

theorem clearIntegrator_frame (e : Element) (s : State) : Within .ofThermalAll s (clearIntegrator e s) := by
  unfold clearIntegrator
  try dsimp only
  repeat' first
    | with_reducible exact .refl _ _
    | rfl
    | exact fun _ => rfl
    | exact fun h => nomatch h
    | with_reducible apply thermalEffects_within
    | with_reducible apply levelNotice_within
    | with_reducible apply updIntegrator_within
    | split

theorem clearIntegrator_within {m : Blocks} {s t : State} {e : Element} (h : Within m s t)
    (le : Blocks.ofThermalAll.le m = true) : Within m s (clearIntegrator e t) :=
  h.trans ((clearIntegrator_frame e t).mono le)

theorem payloadEvent_frame (payload : Nat) (s : State) : Within .ofReport s (payloadEvent payload s) := by
  unfold payloadEvent
  try dsimp only
  repeat' first
    | with_reducible exact .refl _ _
    | rfl
    | exact fun _ => rfl
    | exact fun h => nomatch h
    | with_reducible apply internalSet_within
    | with_reducible apply offer_within
    | with_reducible apply updOverload_within
    | split

theorem payloadEvent_within {m : Blocks} {s t : State} {payload : Nat} (h : Within m s t)
    (le : Blocks.ofReport.le m = true) : Within m s (payloadEvent payload t) :=
  h.trans ((payloadEvent_frame payload t).mono le)

theorem gateEvent_frame (g : GateResult) (s : State) : Within .ofGate s (gateEvent g s) := by
  unfold gateEvent
  try dsimp only
  repeat' first
    | with_reducible exact .refl _ _
    | rfl
    | exact fun _ => rfl
    | exact fun h => nomatch h
    | with_reducible apply latch_within
    | with_reducible apply dumpStart_within
    | with_reducible apply dumpEnd_within
    | with_reducible apply updOverload_within
    | split

theorem gateEvent_within {m : Blocks} {s t : State} {g : GateResult} (h : Within m s t)
    (le : Blocks.ofGate.le m = true) : Within m s (gateEvent g t) :=
  h.trans ((gateEvent_frame g t).mono le)

/-! ### Capture Unit -/

theorem updCapture_frame (f : Capture → Capture) (s : State) : Within .onlyCapture s (updCapture f s) := by
  unfold updCapture
  try dsimp only
  repeat' first
    | with_reducible exact .refl _ _
    | rfl
    | exact fun _ => rfl
    | exact fun h => nomatch h
    | with_reducible apply State.withCapture_within
    | split

theorem updCapture_within {m : Blocks} {s t : State} {f : Capture → Capture} (h : Within m s t)
    (le : Blocks.onlyCapture.le m = true) : Within m s (updCapture f t) :=
  h.trans ((updCapture_frame f t).mono le)

theorem updWheel_frame (w : Wheel) (f : WheelChannel → WheelChannel) (s : State) : Within .onlyCapture s (updWheel w f s) := by
  unfold updWheel
  try dsimp only
  repeat' first
    | with_reducible exact .refl _ _
    | rfl
    | exact fun _ => rfl
    | exact fun h => nomatch h
    | with_reducible apply updCapture_within
    | split

theorem updWheel_within {m : Blocks} {s t : State} {w : Wheel} {f : WheelChannel → WheelChannel} (h : Within m s t)
    (le : Blocks.onlyCapture.le m = true) : Within m s (updWheel w f t) :=
  h.trans ((updWheel_frame w f t).mono le)

theorem computeSpeed_frame (s : State) : Within .onlyCapture s (computeSpeed s) := by
  unfold computeSpeed
  try dsimp only
  repeat' first
    | with_reducible exact .refl _ _
    | rfl
    | exact fun _ => rfl
    | exact fun h => nomatch h
    | with_reducible apply updCapture_within
    | split

theorem computeSpeed_within {m : Blocks} {s t : State} (h : Within m s t)
    (le : Blocks.onlyCapture.le m = true) : Within m s (computeSpeed t) :=
  h.trans ((computeSpeed_frame t).mono le)

theorem wheelEdgeEvent_frame (w : Wheel) (s : State) : Within .ofWheel s (wheelEdgeEvent w s) := by
  unfold wheelEdgeEvent
  try dsimp only
  repeat' first
    | with_reducible exact .refl _ _
    | rfl
    | exact fun _ => rfl
    | exact fun h => nomatch h
    | with_reducible apply latch_within
    | with_reducible apply computeSpeed_within
    | with_reducible apply updWheel_within
    | split

theorem wheelEdgeEvent_within {m : Blocks} {s t : State} {w : Wheel} (h : Within m s t)
    (le : Blocks.ofWheel.le m = true) : Within m s (wheelEdgeEvent w t) :=
  h.trans ((wheelEdgeEvent_frame w t).mono le)

theorem wheelEdgeInput_frame (w : Wheel) (s : State) : Within .ofWheel s (wheelEdgeInput w s) := by
  unfold wheelEdgeInput
  try dsimp only
  repeat' first
    | with_reducible exact .refl _ _
    | rfl
    | exact fun _ => rfl
    | exact fun h => nomatch h
    | with_reducible apply wheelEdgeEvent_within
    | split

theorem wheelEdgeInput_within {m : Blocks} {s t : State} {w : Wheel} (h : Within m s t)
    (le : Blocks.ofWheel.le m = true) : Within m s (wheelEdgeInput w t) :=
  h.trans ((wheelEdgeInput_frame w t).mono le)

theorem wheelTimerEvent_frame (w : Wheel) (s : State) : Within .onlyCapture s (wheelTimerEvent w s) := by
  unfold wheelTimerEvent
  try dsimp only
  repeat' first
    | with_reducible exact .refl _ _
    | rfl
    | exact fun _ => rfl
    | exact fun h => nomatch h
    | with_reducible apply computeSpeed_within
    | with_reducible apply updWheel_within
    | split

theorem wheelTimerEvent_within {m : Blocks} {s t : State} {w : Wheel} (h : Within m s t)
    (le : Blocks.onlyCapture.le m = true) : Within m s (wheelTimerEvent w t) :=
  h.trans ((wheelTimerEvent_frame w t).mono le)

theorem updAngle_frame (f : AngleChannel → AngleChannel) (s : State) : Within .onlyCapture s (updAngle f s) := by
  unfold updAngle
  try dsimp only
  repeat' first
    | with_reducible exact .refl _ _
    | rfl
    | exact fun _ => rfl
    | exact fun h => nomatch h
    | with_reducible apply updCapture_within
    | split

theorem updAngle_within {m : Blocks} {s t : State} {f : AngleChannel → AngleChannel} (h : Within m s t)
    (le : Blocks.onlyCapture.le m = true) : Within m s (updAngle f t) :=
  h.trans ((updAngle_frame f t).mono le)

theorem gateExpiry_frame (s : State) : Within .ofGateExpiry s (gateExpiry s) := by
  unfold gateExpiry
  try dsimp only
  repeat' first
    | with_reducible exact .refl _ _
    | rfl
    | exact fun _ => rfl
    | exact fun h => nomatch h
    | with_reducible apply gateEvent_within
    | with_reducible apply updCapture_within
    | split

theorem gateExpiry_within {m : Blocks} {s t : State} (h : Within m s t)
    (le : Blocks.ofGateExpiry.le m = true) : Within m s (gateExpiry t) :=
  h.trans ((gateExpiry_frame t).mono le)

/-! ### Authority Unit -/

theorem changeAuthority_frame (new : AuthRecord) (cause : AuthCause) (s : State) : Within .ofAuthority s (changeAuthority new cause s) := by
  unfold changeAuthority
  try dsimp only
  repeat' first
    | with_reducible exact .refl _ _
    | rfl
    | exact fun _ => rfl
    | exact fun h => nomatch h
    | with_reducible apply authorityEvent_within
    | with_reducible apply holdAuthorityEvent_within
    | with_reducible apply offer_within
    | with_reducible apply updAuthority_within
    | split

theorem changeAuthority_within {m : Blocks} {s t : State} {new : AuthRecord} {cause : AuthCause} (h : Within m s t)
    (le : Blocks.ofAuthority.le m = true) : Within m s (changeAuthority new cause t) :=
  h.trans ((changeAuthority_frame new cause t).mono le)

theorem deadlineExpiry_frame (s : State) : Within .ofAuthority s (deadlineExpiry s) := by
  unfold deadlineExpiry
  try dsimp only
  repeat' first
    | with_reducible exact .refl _ _
    | rfl
    | exact fun _ => rfl
    | exact fun h => nomatch h
    | with_reducible apply changeAuthority_within
    | with_reducible apply updAuthority_within
    | split

theorem deadlineExpiry_within {m : Blocks} {s t : State} (h : Within m s t)
    (le : Blocks.ofAuthority.le m = true) : Within m s (deadlineExpiry t) :=
  h.trans ((deadlineExpiry_frame t).mono le)

theorem storeDemand_frame (x : Party) (dir : Direction) (propel retard setpoint : Nat) (s : State) : Within .ofDemands s (storeDemand x dir propel retard setpoint s) := by
  unfold storeDemand
  try dsimp only
  repeat' first
    | with_reducible exact .refl _ _
    | rfl
    | exact fun _ => rfl
    | exact fun h => nomatch h
    | with_reducible apply holdAuthorityEvent_within
    | with_reducible apply updAuthority_within
    | split

theorem storeDemand_within {m : Blocks} {s t : State} {x : Party} {dir : Direction} {propel retard setpoint : Nat} (h : Within m s t)
    (le : Blocks.ofDemands.le m = true) : Within m s (storeDemand x dir propel retard setpoint t) :=
  h.trans ((storeDemand_frame x dir propel retard setpoint t).mono le)

theorem demandExpiry_frame (x : Party) (s : State) : Within .ofDemands s (demandExpiry x s) := by
  unfold demandExpiry
  try dsimp only
  repeat' first
    | with_reducible exact .refl _ _
    | rfl
    | exact fun _ => rfl
    | exact fun h => nomatch h
    | with_reducible apply holdAuthorityEvent_within
    | with_reducible apply offer_within
    | with_reducible apply updAuthority_within
    | split

theorem demandExpiry_within {m : Blocks} {s t : State} {x : Party} (h : Within m s t)
    (le : Blocks.ofDemands.le m = true) : Within m s (demandExpiry x t) :=
  h.trans ((demandExpiry_frame x t).mono le)

/-! ### Reports -/

theorem updCab_frame (f : CabStatus → CabStatus) (s : State) : Within .onlySteering s (updCab f s) := by
  unfold updCab
  try dsimp only
  repeat' first
    | with_reducible exact .refl _ _
    | rfl
    | exact fun _ => rfl
    | exact fun h => nomatch h
    | with_reducible apply updSteering_within
    | split

theorem updCab_within {m : Blocks} {s t : State} {f : CabStatus → CabStatus} (h : Within m s t)
    (le : Blocks.onlySteering.le m = true) : Within m s (updCab f t) :=
  h.trans ((updCab_frame f t).mono le)

theorem takePayload_frame (payload : Nat) (s : State) : Within .ofReport s (takePayload payload s) := by
  unfold takePayload
  try dsimp only
  repeat' first
    | with_reducible exact .refl _ _
    | rfl
    | exact fun _ => rfl
    | exact fun h => nomatch h
    | with_reducible apply payloadEvent_within
    | with_reducible apply updCab_within
    | split

theorem takePayload_within {m : Blocks} {s t : State} {payload : Nat} (h : Within m s t)
    (le : Blocks.ofReport.le m = true) : Within m s (takePayload payload t) :=
  h.trans ((takePayload_frame payload t).mono le)

theorem storeCab_frame (payload : Nat) (supply : Supply) (brake : ParkBrake) (s : State) : Within .ofReport s (storeCab payload supply brake s) := by
  unfold storeCab
  try dsimp only
  repeat' first
    | with_reducible exact .refl _ _
    | rfl
    | exact fun _ => rfl
    | exact fun h => nomatch h
    | with_reducible apply evalSteer_within
    | with_reducible apply updCab_within
    | with_reducible apply takePayload_within
    | split

theorem storeCab_within {m : Blocks} {s t : State} {payload : Nat} {supply : Supply} {brake : ParkBrake} (h : Within m s t)
    (le : Blocks.ofReport.le m = true) : Within m s (storeCab payload supply brake t) :=
  h.trans ((storeCab_frame payload supply brake t).mono le)

theorem cabExpiry_frame (s : State) : Within .ofSteering s (cabExpiry s) := by
  unfold cabExpiry
  try dsimp only
  repeat' first
    | with_reducible exact .refl _ _
    | rfl
    | exact fun _ => rfl
    | exact fun h => nomatch h
    | with_reducible apply evalSteer_within
    | with_reducible apply offer_within
    | with_reducible apply updCab_within
    | split

theorem cabExpiry_within {m : Blocks} {s t : State} (h : Within m s t)
    (le : Blocks.ofSteering.le m = true) : Within m s (cabExpiry t) :=
  h.trans ((cabExpiry_frame t).mono le)

theorem updReport_frame (f : DriveReport → DriveReport) (s : State) : Within .onlyOverload s (updReport f s) := by
  unfold updReport
  try dsimp only
  repeat' first
    | with_reducible exact .refl _ _
    | rfl
    | exact fun _ => rfl
    | exact fun h => nomatch h
    | with_reducible apply updOverload_within
    | split

theorem updReport_within {m : Blocks} {s t : State} {f : DriveReport → DriveReport} (h : Within m s t)
    (le : Blocks.onlyOverload.le m = true) : Within m s (updReport f t) :=
  h.trans ((updReport_frame f t).mono le)

theorem reportExpiry_frame (s : State) : Within .ofStale s (reportExpiry s) := by
  unfold reportExpiry
  try dsimp only
  repeat' first
    | with_reducible exact .refl _ _
    | rfl
    | exact fun _ => rfl
    | exact fun h => nomatch h
    | with_reducible apply offer_within
    | with_reducible apply updReport_within
    | split

theorem reportExpiry_within {m : Blocks} {s t : State} (h : Within m s t)
    (le : Blocks.ofStale.le m = true) : Within m s (reportExpiry t) :=
  h.trans ((reportExpiry_frame t).mono le)

/-! ### Clearing trips and the commit -/

theorem ownerClear_frame (c : TripCause) (s : State) : Within .ofThermalAll s (ownerClear c s) := by
  cases c <;> unfold ownerClear <;>
    repeat' first
      | with_reducible exact .refl _ _
      | rfl
      | with_reducible apply clearIntegrator_within
      | with_reducible apply clearBank_within

theorem ownerClear_within {m : Blocks} {s t : State} {c : TripCause} (h : Within m s t)
    (le : Blocks.ofThermalAll.le m = true) : Within m s (ownerClear c t) :=
  h.trans ((ownerClear_frame c t).mono le)

theorem clearCause_frame (count : Nat) (modeAfter : GovMode) (c : TripCause) (s : State) : Within .ofClear s (clearCause count modeAfter c s) := by
  unfold clearCause
  try dsimp only
  repeat' first
    | with_reducible exact .refl _ _
    | rfl
    | exact fun _ => rfl
    | exact fun h => nomatch h
    | with_reducible apply offer_within
    | with_reducible apply ownerClear_within
    | with_reducible apply updGovernor_within
    | split

theorem clearCause_within {m : Blocks} {s t : State} {count : Nat} {modeAfter : GovMode} {c : TripCause} (h : Within m s t)
    (le : Blocks.ofClear.le m = true) : Within m s (clearCause count modeAfter c t) :=
  h.trans ((clearCause_frame count modeAfter c t).mono le)

theorem afterClears_frame (modeAfter : GovMode) (s : State) : Within .ofMode s (afterClears modeAfter s) := by
  unfold afterClears
  try dsimp only
  repeat' first
    | with_reducible exact .refl _ _
    | rfl
    | exact fun _ => rfl
    | exact fun h => nomatch h
    | with_reducible apply changeMode_within
    | with_reducible apply internalWithdraw_within
    | with_reducible apply updGovernor_within
    | split

theorem afterClears_within {m : Blocks} {s t : State} {modeAfter : GovMode} (h : Within m s t)
    (le : Blocks.ofMode.le m = true) : Within m s (afterClears modeAfter t) :=
  h.trans ((afterClears_frame modeAfter t).mono le)

theorem commitCapture_frame (s : State) : Within .onlyCapture s (commitCapture s) := by
  unfold commitCapture
  try dsimp only
  repeat' first
    | with_reducible exact .refl _ _
    | rfl
    | exact fun _ => rfl
    | exact fun h => nomatch h
    | with_reducible apply updCapture_within
    | split

theorem commitCapture_within {m : Blocks} {s t : State} (h : Within m s t)
    (le : Blocks.onlyCapture.le m = true) : Within m s (commitCapture t) :=
  h.trans ((commitCapture_frame t).mono le)

theorem commitGrid_frame (s : State) : Within .ofCommitGrid s (commitGrid s) := by
  unfold commitGrid
  try dsimp only
  repeat' first
    | with_reducible exact .refl _ _
    | rfl
    | exact fun _ => rfl
    | exact fun h => nomatch h
    | with_reducible apply openWatch_within
    | with_reducible apply internalPost_within
    | with_reducible apply updBank_within
    | with_reducible apply updGrid_within
    | split

theorem commitGrid_within {m : Blocks} {s t : State} (h : Within m s t)
    (le : Blocks.ofCommitGrid.le m = true) : Within m s (commitGrid t) :=
  h.trans ((commitGrid_frame t).mono le)

theorem commitResolver_frame (s : State) : Within .onlyResolver s (commitResolver s) := by
  unfold commitResolver
  try dsimp only
  repeat' first
    | with_reducible exact .refl _ _
    | rfl
    | exact fun _ => rfl
    | exact fun h => nomatch h
    | with_reducible apply State.withResolver_within
    | split

theorem commitResolver_within {m : Blocks} {s t : State} (h : Within m s t)
    (le : Blocks.onlyResolver.le m = true) : Within m s (commitResolver t) :=
  h.trans ((commitResolver_frame t).mono le)

theorem commitSteering_frame (s : State) : Within .ofCommitSteering s (commitSteering s) := by
  unfold commitSteering
  try dsimp only
  repeat' first
    | with_reducible exact .refl _ _
    | rfl
    | exact fun _ => rfl
    | exact fun h => nomatch h
    | with_reducible apply evalSteer_within
    | with_reducible apply updSteering_within
    | split

theorem commitSteering_within {m : Blocks} {s t : State} (h : Within m s t)
    (le : Blocks.ofCommitSteering.le m = true) : Within m s (commitSteering t) :=
  h.trans ((commitSteering_frame t).mono le)

theorem commitOverload_frame (s : State) : Within .onlyOverload s (commitOverload s) := by
  unfold commitOverload
  try dsimp only
  repeat' first
    | with_reducible exact .refl _ _
    | rfl
    | exact fun _ => rfl
    | exact fun h => nomatch h
    | with_reducible apply updOverload_within
    | split

theorem commitOverload_within {m : Blocks} {s t : State} (h : Within m s t)
    (le : Blocks.onlyOverload.le m = true) : Within m s (commitOverload t) :=
  h.trans ((commitOverload_frame t).mono le)

theorem commitHold_frame (s : State) : Within .ofHoldMode s (commitHold s) := by
  unfold commitHold
  try dsimp only
  repeat' first
    | with_reducible exact .refl _ _
    | rfl
    | exact fun _ => rfl
    | exact fun h => nomatch h
    | with_reducible apply holdModeEvent_within
    | with_reducible apply holdGridEvent_within
    | with_reducible apply updCtx_within
    | split

theorem commitHold_within {m : Blocks} {s t : State} (h : Within m s t)
    (le : Blocks.ofHoldMode.le m = true) : Within m s (commitHold t) :=
  h.trans ((commitHold_frame t).mono le)

theorem commitEvent_frame (s : State) : Within .ofCommit s (commitEvent s) := by
  unfold commitEvent
  try dsimp only
  repeat' first
    | with_reducible exact .refl _ _
    | rfl
    | exact fun _ => rfl
    | exact fun h => nomatch h
    | with_reducible apply gridModeEvent_within
    | with_reducible apply commitHold_within
    | with_reducible apply commitOverload_within
    | with_reducible apply commitSteering_within
    | with_reducible apply commitResolver_within
    | with_reducible apply commitGrid_within
    | with_reducible apply commitCapture_within
    | with_reducible apply setMode_within
    | with_reducible apply updProfile_within
    | split

theorem commitEvent_within {m : Blocks} {s t : State} (h : Within m s t)
    (le : Blocks.ofCommit.le m = true) : Within m s (commitEvent t) :=
  h.trans ((commitEvent_frame t).mono le)

end Sys2Proof.Machine
end

