-- ==== Sys2Proof/Laws/Owners.lean ====
section
/-! SUPPORT. What the owner of each request can change, and the events that are followed by a GRID post. -/

namespace Sys2Proof.Machine

/-- What a CLEAR TRIPS can change. -/
def Blocks.ofClearTrips : Blocks :=
  { overload := true, governor := true, trips := true, mode := true, holdMode := true, gridMode := true,
    resolver := true, hold := true, grid := true, gridValue := true, steering := true, limits := true,
    ports := true }

/-- What an event at the banks can change, the GRID post that follows it included. -/
def Blocks.ofBankEvent : Blocks := Blocks.ofClearTrips

theorem gridEvent_within {m : Blocks} {s t : State} {effect : State → State}
    (h : Within m s (effect t)) (le : Blocks.ofGridPost.le m = true) :
    Within m s (gridEvent effect t) :=
  postGrid_within h le

theorem foldl_within {α : Type} {m : Blocks} {s : State} {f : State → α → State}
    (step : ∀ t x, Within m s t → Within m s (f t x)) (l : List α) :
    ∀ t, Within m s t → Within m s (l.foldl f t) := by
  induction l with
  | nil => exact fun _ h => h
  | cons x l ih => exact fun t h => ih _ (step t x h)

theorem clearTripsEvent_frame (s : State) : Within .ofClearTrips s (clearTripsEvent s) := by
  unfold clearTripsEvent
  dsimp only
  refine afterClears_within ?_ rfl
  exact foldl_within (fun t c h => clearCause_within h rfl) _ _ (.refl _ _)

theorem readRecordOwner_frame (p : Port) (args : List Byte) (s : State) :
    Within .ofPorts s (readRecordOwner p args s).1 := by
  unfold readRecordOwner
  split <;> exact .refl _ _

theorem readTableOwner_frame (args : List Byte) (s : State) :
    Within .ofPorts s (readTableOwner args s).1 := by
  unfold readTableOwner
  repeat' first | exact .refl _ _ | split

theorem takeNoticesOwner_frame (p : Port) (args : List Byte) (s : State) :
    Within .ofAnswer s (takeNoticesOwner p args s).1 := by
  unfold takeNoticesOwner
  split
  · exact updPort_frame _ _ _
  · exact .refl _ _

theorem setMaskOwner_frame (p : Port) (args : List Byte) (s : State) :
    Within .ofAnswer s (setMaskOwner p args s).1 := by
  unfold setMaskOwner
  repeat' first | exact .refl _ _ | (dsimp only; exact updPort_frame _ _ _) | split

theorem setThresholdOwner_frame (p : Port) (args : List Byte) (s : State) :
    Within .ofAnswer s (setThresholdOwner p args s).1 := by
  unfold setThresholdOwner
  repeat' first | exact .refl _ _ | (dsimp only; exact updPort_frame _ _ _) | split

theorem postChecked_frame (p : Port) (k : Kind) (sc : Scope) (v h reason : Nat) (s : State) :
    Within .ofTable s (postChecked p k sc v h reason s).1 := by
  unfold postChecked postReply refusePost
  dsimp only
  repeat' first | with_reducible exact .refl _ _ | with_reducible exact withTable_frame _ _ | split

theorem postOwner_frame (p : Port) (args : List Byte) (s : State) :
    Within .ofTable s (postOwner p args s).1 := by
  unfold postOwner refusePost
  repeat' first | with_reducible exact .refl _ _ | with_reducible exact postChecked_frame .. | split

theorem withdrawOwner_frame (p : Port) (args : List Byte) (s : State) :
    Within .ofTable s (withdrawOwner p args s).1 := by
  unfold withdrawOwner withdrawEntry
  repeat' first | with_reducible exact .refl _ _ | with_reducible exact withTable_frame .. | split

theorem rule_frame (v : Verdict) (s : State) : Within .ofAuthority s (rule v s).1 := by
  cases v with
  | change new cause q => exact changeAuthority_frame new cause s
  | keep a => exact .refl _ _

theorem protocolRequest_frame (v : State → Verdict) (args : List Byte) (s : State) :
    Within .ofAuthority s (protocolRequest v args s).1 := rule_frame _ s

theorem claimOwner_frame (p : Port) (args : List Byte) (s : State) :
    Within .ofAuthority s (claimOwner p args s).1 := by
  unfold claimOwner
  split
  · exact rule_frame _ s
  · exact protocolRequest_frame _ _ s

theorem submitOwner_frame (p : Port) (args : List Byte) (s : State) :
    Within .ofDemands s (submitOwner p args s).1 := by
  unfold submitOwner
  repeat' first | with_reducible exact .refl _ _ | with_reducible exact storeDemand_frame .. | split

theorem reportCabOwner_frame (args : List Byte) (s : State) :
    Within .ofReport s (reportCabOwner args s).1 := by
  unfold reportCabOwner
  repeat' first | with_reducible exact .refl _ _ | with_reducible exact storeCab_frame .. | split

theorem reportDriveOwner_frame (args : List Byte) (s : State) :
    Within .onlyOverload s (reportDriveOwner args s).1 := by
  unfold reportDriveOwner
  repeat' first | with_reducible exact .refl _ _ | with_reducible exact updReport_frame .. | split

theorem clearTripsOwner_frame (args : List Byte) (s : State) :
    Within .ofClearTrips s (clearTripsOwner args s).1 := by
  unfold clearTripsOwner
  repeat' first
    | with_reducible exact .refl _ _
    | exact gridEvent_within (clearTripsEvent_frame s) rfl
    | split

theorem profileWriteOwner_frame (args : List Byte) (s : State) :
    Within { profile := true } s (profileWriteOwner args s).1 := by
  unfold profileWriteOwner
  repeat' first
    | with_reducible exact .refl _ _
    | (dsimp only; exact updProfile_within (.refl _ s) rfl)
    | split

theorem commitOwner_frame (args : List Byte) (s : State) :
    Within .ofCommit s (commitOwner args s).1 := by
  unfold commitOwner
  repeat' first | with_reducible exact .refl _ _ | with_reducible exact commitEvent_frame s | split

end Sys2Proof.Machine
end

