-- ==== Sys2Proof/Laws/Step.lean ====
section
/-! SUPPORT. What a command and a step can do, said once: a property that each of the governor's events
keeps is kept by every command and by every step (`KeptBy.exec`, `KeptBy.step`). -/

namespace Sys2Proof.Machine

/-- Everything a request can do: nothing during a reset or to a transaction that is discarded; otherwise
the last response is clocked out, and the port answers, itself or with the owner's answer. -/
theorem serve_cases {r : Request} {p : Port} {f : Frame} {owner : State → State × Reply} {s t : State}
    (h : serve r p f owner s = .next t) :
    t = s ∨ (s.resetting = none ∧ f.early = false ∧
      ((∃ a, t = respond p r.code (refuse a) (clockOut p (frameBytes f) s)) ∨
       (unfitted s p = false ∧ permitted r p = true ∧
        t = respond p r.code (owner (clockOut p (frameBytes f) s)).2
          (owner (clockOut p (frameBytes f) s)).1))) := by
  unfold serve transaction at h
  rcases whenLive_cases h with ⟨_, rfl⟩ | ⟨hr, rfl⟩
  · exact .inl rfl
  · cases he : f.early with
    | true => exact .inl (by simp)
    | false =>
      refine .inr ⟨hr, rfl, ?_⟩
      simp only [answerRequest, Bool.false_eq_true, if_false]
      by_cases hu : unfitted (clockOut p (frameBytes f) s) p = true
      · exact .inl ⟨.notFitted, by simp [hu]⟩
      · by_cases hp : permitted r p = true
        · refine .inr ⟨?_, hp, by simp [hu, hp]⟩
          simpa [unfitted, clockOut, updPort] using hu
        · exact .inl ⟨.notPermitted, by simp [hu, hp]⟩

/-- A request that is taken: live, complete, on a fitted port that may make it. -/
theorem serve_taken {r : Request} {p : Port} {f : Frame} {owner : State → State × Reply} {s : State}
    (live : s.resetting = none) (early : f.early = false) (fitted : unfitted s p = false)
    (may : permitted r p = true) :
    serve r p f owner s = .next (respond p r.code (owner (clockOut p (frameBytes f) s)).2
      (owner (clockOut p (frameBytes f) s)).1) := by
  have hu : unfitted (clockOut p (frameBytes f) s) p = false := by
    simpa [unfitted, clockOut, updPort] using fitted
  simp [serve, transaction, whenLive, live, early, answerRequest, hu, may]

/-- A property that each event of the governor keeps. -/
structure KeptBy (P : State → Prop) : Prop where
  pending : ∀ x s, P s → P (s.withPending x)
  draws : ∀ n s, P s → P (s.withDraws n)
  tick : ∀ s, s.resetting = none → P s → P (passTime s)
  beginReset : ∀ cause s, P s → P (beginReset cause s)
  endReset : ∀ sfit one two s, s.resetting.isSome → P s → P (endReset sfit one two s)
  clockOut : ∀ p n s, s.resetting = none → P s → P (clockOut p n s)
  respond : ∀ p echo reply s, s.resetting = none → P s → P (respond p echo reply s)
  repeatResponse : ∀ p s, s.resetting = none → P s → P (repeatResponse p s)
  wheelEdge : ∀ w s, s.resetting = none → P s → P (wheelEdgeInput w s)
  wheelEdgeTimerExpiry : ∀ w s, s.resetting = none → ((s.capture.wheels.get w).edgeTimer).isSome → P s → P (wheelTimerEvent w s)
  angleRisingEdge : ∀ s, s.resetting = none → P s → P (updAngle (angleRise s.capture.counter) s)
  angleFallingEdge : ∀ s, s.resetting = none → P s → P (updAngle (angleFall s.capture.counter) s)
  angleEdgeTimerExpiry : ∀ s, s.resetting = none → (s.capture.angle.edgeTimer).isSome → P s → P (updAngle angleSilent s)
  lvfEdge : ∀ s, s.resetting = none → P s → P (updCapture (fun c => { c with link := { c.link with running := c.link.running + 1 } }) s)
  linkGateExpiry : ∀ s, s.resetting = none → (s.capture.link.gateTimer).isSome → P s → P (gateExpiry s)
  feedbackRises : ∀ b s, s.resetting = none → P s → P (gridEvent (feedbackRise b) s)
  feedbackFalls : ∀ b s, s.resetting = none → P s → P (gridEvent (feedbackFall b) s)
  holdTimerExpiryOfLimit : ∀ slot s, s.resetting = none → (limitTimer slot s).isSome → P s → P (limitExpiry slot s)
  handoverDeadlineExpiry : ∀ s, s.resetting = none → (s.authority.record.deadline).isSome → P s → P (deadlineExpiry s)
  demandLifetimeExpiry : ∀ x s, s.resetting = none → ((s.authority.demands.get x).lifetime).isSome → P s → P (demandExpiry x s)
  resolutionTimerExpiry : ∀ s, s.resetting = none → (s.resolver.timer).isSome → P s → P (resolutionExpiry s)
  holdTimerExpiry : ∀ s, s.resetting = none → (s.hold.ctx.timer).isSome → P s → P (holdUpdate s)
  overspeedTimerExpiry : ∀ s, s.resetting = none → (s.hold.brake.overspeedTimer).isSome → P s → P (overspeedExpiry s)
  noRetardTimerExpiry : ∀ s, s.resetting = none → (s.hold.brake.noRetardTimer).isSome → P s → P (noRetardExpiry s)
  handshakeTimerExpiry : ∀ b s, s.resetting = none → ((bankOf s b).handshake).isSome → P s → P (gridEvent (handshakeExpiry b) s)
  periodBoundary : ∀ b s, s.resetting = none → ((bankOf s b).boundary).isSome → P s → P (gridEvent (boundaryEvent b) s)
  chopperOnTimeEnd : ∀ b s, s.resetting = none → ((bankOf s b).onTime).isSome → P s → P (onTimeEnd b s)
  steeringTimerExpiry : ∀ s, s.resetting = none → (s.steering.timer).isSome → P s → P (steeringRun s)
  cabStatusLifetimeExpiry : ∀ s, s.resetting = none → (s.steering.cab.lifetime).isSome → P s → P (cabExpiry s)
  driveReportLifetimeExpiry : ∀ s, s.resetting = none → (s.overload.report.lifetime).isSome → P s → P (reportExpiry s)
  overloadTimerExpiry : ∀ s, s.resetting = none → (s.overload.timer).isSome → P s → P (gridEvent overloadUpdate s)
  dwellTimerExpiry : ∀ e s, s.resetting = none → ((integratorOf s e).dwell).isSome → P s → P (gridEvent (dwellExpiry e) s)
  readRecord : ∀ p args s, s.resetting = none → unfitted s p = false → permitted .readRecord p = true → P s → P (readRecordOwner p args s).1
  readTable : ∀ args s, s.resetting = none → P s → P (readTableOwner args s).1
  takeNotices : ∀ p args s, s.resetting = none → unfitted s p = false → permitted .takeNotices p = true → P s → P (takeNoticesOwner p args s).1
  setNoticeMask : ∀ p args s, s.resetting = none → unfitted s p = false → permitted .setNoticeMask p = true → P s → P (setMaskOwner p args s).1
  setNoticeThreshold : ∀ p args s, s.resetting = none → unfitted s p = false → permitted .setNoticeThreshold p = true → P s → P (setThresholdOwner p args s).1
  postLimit : ∀ p args s, s.resetting = none → unfitted s p = false → permitted .postLimit p = true → P s → P (postOwner p args s).1
  withdrawLimit : ∀ p args s, s.resetting = none → unfitted s p = false → permitted .withdrawLimit p = true → P s → P (withdrawOwner p args s).1
  claim : ∀ p args s, s.resetting = none → unfitted s p = false → permitted .claim p = true → P s → P (claimOwner p args s).1
  release : ∀ p args s, s.resetting = none → unfitted s p = false → permitted .release p = true → P s → P (protocolRequest (releaseVerdict p) args s).1
  yieldAuthority : ∀ args s, s.resetting = none → P s → P (protocolRequest yieldVerdict args s).1
  withdrawBid : ∀ args s, s.resetting = none → P s → P (protocolRequest withdrawBidVerdict args s).1
  submitDemand : ∀ p args s, s.resetting = none → unfitted s p = false → permitted .submitDemand p = true → P s → P (submitOwner p args s).1
  reportCab : ∀ args s, s.resetting = none → P s → P (reportCabOwner args s).1
  reportDrive : ∀ args s, s.resetting = none → P s → P (reportDriveOwner args s).1
  clearTrips : ∀ args s, s.resetting = none → P s → P (clearTripsOwner args s).1
  profileWrite : ∀ args s, s.resetting = none → P s → P (profileWriteOwner args s).1
  commitProfile : ∀ args s, s.resetting = none → P s → P (commitOwner args s).1

section
variable {P : State → Prop}

/-- A request keeps the property when its owner does. -/
theorem KeptBy.serve (k : KeptBy P) {r : Request} {p : Port} {f : Frame}
    {owner : State → State × Reply} {s t : State}
    (keeps : ∀ s, (owner s).1.resetting = s.resetting)
    (own : ∀ s, s.resetting = none → unfitted s p = false → permitted r p = true → P s →
      P (owner s).1)
    (hs : P s) (h : serve r p f owner s = .next t) : P t := by
  rcases serve_cases h with rfl | ⟨hr, _, ⟨a, rfl⟩ | ⟨hu, hp, rfl⟩⟩
  · exact hs
  · exact k.respond _ _ _ _ hr (k.clockOut _ _ _ hr hs)
  · exact k.respond _ _ _ _ (by rw [keeps]; exact hr) (own _ hr hu hp (k.clockOut _ _ _ hr hs))

/-- A transaction that the port answers keeps the property when the answer does. -/
theorem KeptBy.transaction (k : KeptBy P) {p : Port} {early : Bool} {n : Nat} {take : State → State}
    {s t : State} (own : ∀ s, s.resetting = none → P s → P (take s)) (hs : P s)
    (h : transaction p early n take s = .next t) : P t := by
  unfold Machine.transaction at h
  rcases whenLive_cases h with ⟨_, rfl⟩ | ⟨hr, rfl⟩
  · exact hs
  · split
    · exact hs
    · exact own _ hr (k.clockOut _ _ _ hr hs)

/-- An event keeps the property when its effect does. -/
theorem KeptBy.live {effect : State → State} {s t : State}
    (own : s.resetting = none → P (effect s)) (hs : P s) (h : whenLive effect s = .next t) : P t := by
  rcases whenLive_cases h with ⟨_, rfl⟩ | ⟨hr, rfl⟩
  · exact hs
  · exact own hr

/-- An expiry keeps the property when its effect does. -/
theorem KeptBy.running {tm : State → Timer} {effect : State → State} {s t : State}
    (own : s.resetting = none → (tm s).isSome → P (effect s)) (hs : P s)
    (h : whenRunning tm effect s = .next t) : P t := by
  rcases whenRunning_cases h with rfl | ⟨hr, ht, rfl⟩
  · exact hs
  · exact own hr ht

/-- A reset line keeps the property when the beginning of a reset does. -/
theorem KeptBy.lineReset (k : KeptBy P) {s : State} (hs : P s) : P (lineReset s) := k.beginReset _ _ hs

/-- Every command keeps a property that each event keeps. -/
theorem KeptBy.exec (k : KeptBy P) {c : Instr} {s t : State} (hs : P s)
    (h : Machine.exec c s = .next t) : P t := by
  cases c with
  | powerOn => cases h; exact k.beginReset _ _ hs
  | resetLine pulse =>
    cases h
    cases pulse with
    | full => exact k.lineReset hs
    | short =>
      show P (shortPulse s)
      unfold shortPulse
      split
      · exact k.lineReset (k.draws _ _ hs)
      · exact k.draws _ _ hs
  | resetEnd sfit one two =>
    cases h
    split
    · exact k.endReset _ _ _ _ ‹_› hs
    · exact hs
  | nop p f => exact k.transaction (fun s hr hs => k.repeatResponse p s hr hs) hs h
  | truncated p bytes early =>
    simp only [Machine.exec, execTruncated] at h
    split at h
    · exact k.transaction (fun s hr hs => k.respond _ _ _ s hr hs) hs h
    · cases h
  | unknownRequest p code f =>
    simp only [Machine.exec, execUnknownRequest] at h
    split at h
    · cases h
    · exact k.transaction (fun s hr hs => k.respond _ _ _ s hr hs) hs h
  | wheelEdge w => exact KeptBy.live (fun hr => k.wheelEdge w s hr hs) hs h
  | wheelEdgeTimerExpiry w => exact KeptBy.running (tm := fun s => (s.capture.wheels.get w).edgeTimer) (fun hr ht => k.wheelEdgeTimerExpiry w s hr ht hs) hs h
  | angleRisingEdge => exact KeptBy.live (fun hr => k.angleRisingEdge s hr hs) hs h
  | angleFallingEdge => exact KeptBy.live (fun hr => k.angleFallingEdge s hr hs) hs h
  | angleEdgeTimerExpiry => exact KeptBy.running (tm := fun s => s.capture.angle.edgeTimer) (fun hr ht => k.angleEdgeTimerExpiry s hr ht hs) hs h
  | lvfEdge => exact KeptBy.live (fun hr => k.lvfEdge s hr hs) hs h
  | linkGateExpiry => exact KeptBy.running (tm := fun s => s.capture.link.gateTimer) (fun hr ht => k.linkGateExpiry s hr ht hs) hs h
  | feedbackRises b => exact KeptBy.live (fun hr => k.feedbackRises b s hr hs) hs h
  | feedbackFalls b => exact KeptBy.live (fun hr => k.feedbackFalls b s hr hs) hs h
  | holdTimerExpiryOfLimit slot => exact KeptBy.running (tm := fun s => limitTimer slot s) (fun hr ht => k.holdTimerExpiryOfLimit slot s hr ht hs) hs h
  | handoverDeadlineExpiry => exact KeptBy.running (tm := fun s => s.authority.record.deadline) (fun hr ht => k.handoverDeadlineExpiry s hr ht hs) hs h
  | demandLifetimeExpiry x => exact KeptBy.running (tm := fun s => (s.authority.demands.get x).lifetime) (fun hr ht => k.demandLifetimeExpiry x s hr ht hs) hs h
  | resolutionTimerExpiry => exact KeptBy.running (tm := fun s => s.resolver.timer) (fun hr ht => k.resolutionTimerExpiry s hr ht hs) hs h
  | holdTimerExpiry => exact KeptBy.running (tm := fun s => s.hold.ctx.timer) (fun hr ht => k.holdTimerExpiry s hr ht hs) hs h
  | overspeedTimerExpiry => exact KeptBy.running (tm := fun s => s.hold.brake.overspeedTimer) (fun hr ht => k.overspeedTimerExpiry s hr ht hs) hs h
  | noRetardTimerExpiry => exact KeptBy.running (tm := fun s => s.hold.brake.noRetardTimer) (fun hr ht => k.noRetardTimerExpiry s hr ht hs) hs h
  | handshakeTimerExpiry b => exact KeptBy.running (tm := fun s => (bankOf s b).handshake) (fun hr ht => k.handshakeTimerExpiry b s hr ht hs) hs h
  | periodBoundary b => exact KeptBy.running (tm := fun s => (bankOf s b).boundary) (fun hr ht => k.periodBoundary b s hr ht hs) hs h
  | chopperOnTimeEnd b => exact KeptBy.running (tm := fun s => (bankOf s b).onTime) (fun hr ht => k.chopperOnTimeEnd b s hr ht hs) hs h
  | steeringTimerExpiry => exact KeptBy.running (tm := fun s => s.steering.timer) (fun hr ht => k.steeringTimerExpiry s hr ht hs) hs h
  | cabStatusLifetimeExpiry => exact KeptBy.running (tm := fun s => s.steering.cab.lifetime) (fun hr ht => k.cabStatusLifetimeExpiry s hr ht hs) hs h
  | driveReportLifetimeExpiry => exact KeptBy.running (tm := fun s => s.overload.report.lifetime) (fun hr ht => k.driveReportLifetimeExpiry s hr ht hs) hs h
  | overloadTimerExpiry => exact KeptBy.running (tm := fun s => s.overload.timer) (fun hr ht => k.overloadTimerExpiry s hr ht hs) hs h
  | dwellTimerExpiry e => exact KeptBy.running (tm := fun s => (integratorOf s e).dwell) (fun hr ht => k.dwellTimerExpiry e s hr ht hs) hs h
  | readRecord p f => exact k.serve (fun s => (readRecordOwner_frame _ _ s).resetting) (fun s hr hu hp hs => k.readRecord p f.args s hr hu hp hs) hs h
  | readTable p f => exact k.serve (fun s => (readTableOwner_frame _ s).resetting) (fun s hr hu hp hs => k.readTable f.args s hr hs) hs h
  | takeNotices p f => exact k.serve (fun s => (takeNoticesOwner_frame _ _ s).resetting) (fun s hr hu hp hs => k.takeNotices p f.args s hr hu hp hs) hs h
  | setNoticeMask p f => exact k.serve (fun s => (setMaskOwner_frame _ _ s).resetting) (fun s hr hu hp hs => k.setNoticeMask p f.args s hr hu hp hs) hs h
  | setNoticeThreshold p f => exact k.serve (fun s => (setThresholdOwner_frame _ _ s).resetting) (fun s hr hu hp hs => k.setNoticeThreshold p f.args s hr hu hp hs) hs h
  | postLimit p f => exact k.serve (fun s => (postOwner_frame _ _ s).resetting) (fun s hr hu hp hs => k.postLimit p f.args s hr hu hp hs) hs h
  | withdrawLimit p f => exact k.serve (fun s => (withdrawOwner_frame _ _ s).resetting) (fun s hr hu hp hs => k.withdrawLimit p f.args s hr hu hp hs) hs h
  | claim p f => exact k.serve (fun s => (claimOwner_frame _ _ s).resetting) (fun s hr hu hp hs => k.claim p f.args s hr hu hp hs) hs h
  | release p f => exact k.serve (fun s => (protocolRequest_frame _ _ s).resetting) (fun s hr hu hp hs => k.release p f.args s hr hu hp hs) hs h
  | yieldAuthority p f => exact k.serve (fun s => (protocolRequest_frame _ _ s).resetting) (fun s hr hu hp hs => k.yieldAuthority f.args s hr hs) hs h
  | withdrawBid p f => exact k.serve (fun s => (protocolRequest_frame _ _ s).resetting) (fun s hr hu hp hs => k.withdrawBid f.args s hr hs) hs h
  | submitDemand p f => exact k.serve (fun s => (submitOwner_frame _ _ s).resetting) (fun s hr hu hp hs => k.submitDemand p f.args s hr hu hp hs) hs h
  | reportCab p f => exact k.serve (fun s => (reportCabOwner_frame _ s).resetting) (fun s hr hu hp hs => k.reportCab f.args s hr hs) hs h
  | reportDrive p f => exact k.serve (fun s => (reportDriveOwner_frame _ s).resetting) (fun s hr hu hp hs => k.reportDrive f.args s hr hs) hs h
  | clearTrips p f => exact k.serve (fun s => (clearTripsOwner_frame _ s).resetting) (fun s hr hu hp hs => k.clearTrips f.args s hr hs) hs h
  | profileWrite p f => exact k.serve (fun s => (profileWriteOwner_frame _ s).resetting) (fun s hr hu hp hs => k.profileWrite f.args s hr hs) hs h
  | commitProfile p f => exact k.serve (fun s => (commitOwner_frame _ s).resetting) (fun s hr hu hp hs => k.commitProfile f.args s hr hs) hs h

/-- Every step keeps a property that each event keeps. -/
theorem KeptBy.step (k : KeptBy P) {s t : State} (hs : P s) (h : Machine.step s = .next t) : P t := by
  unfold Machine.step at h
  split at h
  · exact k.exec (k.pending _ _ hs) h
  · split at h
    · cases h; exact hs
    · rename_i hr
      have hr' : s.resetting = none := by simpa using hr
      unfold clockEvent at h
      split at h
      · rename_i e
        split at e <;> cases e
        cases h
        exact k.tick _ hr' hs
      · rename_i e
        split at e <;> cases e
        · exact k.exec hs h
        · exact k.exec (k.draws _ _ hs) h

end

end Sys2Proof.Machine
end

