-- ==== Sys2Proof/Tests/Samples.lean ====
section
/-! SUPPORT. The profile of the manual's worked sequences and the small states that the tests and the
witnesses of the statements are about, with the checks that show a concrete state meets an invariant. -/

namespace Sys2Proof.Tests

open Sys2Proof.Machine Sys2Proof.Safety

/-! ### The profile of *Worked Sequences* -/

/-- A section of scalars. -/
def scalars (l : List Nat) : List Entry := l.map .scalar

/-- A torque table with its count and its breakpoints. -/
def table (l : List (Nat × Nat)) : List Entry :=
  .scalar l.length :: (l.map (fun x => .point x.1 x.2) ++ List.replicate (16 - l.length) (.point 0 0))

/-- The figures of a grid bank: 2000 kW, 800 mΩ, and a thermal class. -/
def bankFigures : List Entry := scalars [2000, 800, 600, 900, 1050, 1250, 50, 30000, 400, 100]

/-- The profile at the head of *Worked Sequences*, with the tables of *Effort Resolution*, *Steering
Supervision and Wheel Slip* and the motor class of *Overload Protection*; the entries no sequence gives are
within their ranges. -/
def sample : Profile :=
  { committed := false
    sections :=
      [scalars [60, 212, 4000, 500, 60],
       table [(200, 18000), (1000, 18000), (1500, 12000), (2500, 7200), (3500, 5100)],
       table [(200, 16000), (1000, 16000), (1500, 12000), (2500, 7200), (3500, 5100)],
       scalars [200, 150, 40],
       scalars [20000, 1300, 600, 900, 1050, 1250, 50, 30000, 400, 700, 500],
       bankFigures, bankFigures, scalars [2300, 2500, 150], scalars [2000],
       scalars [20, 500, 400000, 15, 1000, 20],
       scalars [1000, 975, 951, 928, 906, 885, 866, 848, 831, 815, 800, 786, 773, 761, 750, 740,
                80, 30, 100, 40, 250, 400, 80, 50, 150],
       scalars [2400, 1050, 1150, 1250, 500, 350, 200], scalars [300, 1500]] }

/-! ### States -/

/-- A frame with the argument bytes given. -/
def frame (args : List Byte) : Frame := { args := args }

/-- The state a command leaves; the same state where it has none. -/
def after (c : Instr) (s : State) : State :=
  match exec c s with
  | .next t => t
  | .fault _ => s
  | .refused _ => s

/-- The profile loaded after a reset, before the commit. -/
def loaded : State := State.reset.withProfile sample

/-- What an accepted commit leaves of it: READY. -/
def ready : State := commitEvent loaded

/-- A bank that is CLOSED with its feedback present. -/
def closedBankSample : Bank :=
  { Bank.reset with contactor := .closed, command := true, feedback := true, enableRequested := true }

/-- A bank replaced, with GRID posted anew. -/
def setBank (b : BankId) (k : Bank) (s : State) : State := gridEvent (updBank b fun _ => k) s

/-- The Cab's claim taken in READY: ACTIVE, both banks CLOSING. -/
def active : State := authorityEvent true (updAuthority (fun u => { u with record := heldBy .cab }) ready)

/-- ACTIVE with both banks CLOSED: GRID stands at 4000. -/
def closed : State := setBank .two closedBankSample (setBank .one closedBankSample active)

/-- The authority record replaced. -/
def withRecord (r : AuthRecord) (s : State) : State := updAuthority (fun u => { u with record := r }) s

/-- A handover from the Supervisor to the Cab, with its deadline running. -/
def handover : AuthRecord :=
  { state := .handover, holder := some .supervisor, claimant := some .cab, bidder := none,
    deadline := some 1500000 }

/-- The Cab holding, with a bid of the Supervisor. -/
def bid : AuthRecord := { heldBy .cab with bidder := some .supervisor }

/-- A fresh demand: FORWARD with a propel, a retard and a setpoint. -/
def freshDemand (propel retard : Nat) (setpoint : Option Nat) : Demand :=
  { direction := .forward, propel := propel, retard := retard, setpoint := setpoint, freshness := .fresh,
    lifetime := some 300000 }

/-- The two demands replaced. -/
def withDemands (cab sup : Demand) (s : State) : State :=
  updAuthority (fun u => { u with demands := ⟨cab, sup⟩ }) s

/-- A governor mode set alone. -/
def withMode (m : GovMode) (s : State) : State := updGovernor (fun g => { g with mode := m }) s

/-- The truck speed and the stationary flag set. -/
def withSpeed (v : Nat) (stationary : Bool) (s : State) : State :=
  updCapture (fun c => { c with v := v, vValid := true, stationary := stationary }) s

/-- Both wheels TURNING at the rpm given, with v as R15 gives it. -/
def turning (left right : Nat) (s : State) : State :=
  computeSpeed (updWheel .left (fun c => { c with state := .turning, rpm := left })
    (updWheel .right (fun c => { c with state := .turning, rpm := right }) s))

/-- A wheel channel with its last stamp at 0, and the counter at a value. -/
def edgeAt (now : Stamp) (c : WheelChannel) (s : State) : State :=
  updWheel .left (fun _ => { c with prevStamp := some 0 }) (updCapture (fun u => { u with counter := now }) s)

/-- A steering angle read and used. -/
def withAngle (angle : Int) (s : State) : State :=
  updAngle (fun a => { a with state := .ok, angle := angle }) s

/-- A drive report with both inverters ready. -/
def readyDrives (current : Nat) (s : State) : State :=
  updReport (fun _ => { ready := ⟨true, true⟩, current := ⟨current, current⟩, freshness := .fresh,
                        lifetime := some 100000 }) s

/-- The loaded descent of *Worked Sequences* before pass 4812. -/
def descent : State :=
  let s := readyDrives 0 (turning 1180 1220 (withRecord (heldBy .supervisor) closed))
  let s := withDemands .reset (freshDemand 0 0 (some 242)) s
  let s := evalSteer (updSteering (fun u => { u with angleStateUsed := .ok }) (updCab (fun c =>
    { c with supply := .normal, parkBrake := .released, freshness := .fresh, lifetime := some 500000 }) s))
  let s := updCtx (fun c => { c with demandSource := some 242, setpoint := some 242, integral := 156000,
                                     bHold := 396, lastGrant := ⟨.retard, .request, .request, 4811⟩ }) s
  let w : WheelGrant := { torque := 5600, cap := 14560, capability := 14560, speedUsed := 1180,
                          binding := .request, bindingSource := none }
  let s := updCapture (fun c => { c with link := { c.link with v := 1800, state := .ok } }) s
  s.withResolver { s.resolver with
    axle := .forward, pass := 4811
    last := { Grant.zero with pass := 4811, mode := .retard, axle := .forward, wheels := ⟨w, w⟩ } }

/-- SPEED 350 for the axle posted by the Supervisor, for 2000 ms with reason 12. -/
def speedPost : Frame := frame [0x03, 0x02, 0x01, 0x5E, 0x07, 0xD0, 0x0C]

/-- READY with that limit posted: it stands in slot 12. -/
def posted : State := (postOwner .s speedPost.args ready).1

/-- A master contribution of a source. -/
def limitOf (p : Port) (k : Kind) (sc : Scope) : Contribution :=
  { source := portSource p, kind := k, scope := sc, value := 100, reason := 0, order := 0,
    hold := some ⟨1000, 1000000⟩ }

/-- Eight contributions of a master, of which one has a scope that no request can give it: the pool can hold
eight of one master without the key (SPEED, AXLE). -/
def eightOf (p : Port) : List (Option Contribution) :=
  [some (limitOf p .propelTorque .left), some (limitOf p .propelTorque .right),
   some (limitOf p .propelTorque .axle), some (limitOf p .retardTorque .left),
   some (limitOf p .retardTorque .right), some (limitOf p .retardTorque .axle),
   some (limitOf p .retardPower .axle), some (limitOf p .speed .left)]

/-- A table with the slots of the pool given, in READY. -/
def withPool (pool : List (Option Contribution)) (counts : PerPort Nat) (s : State) : State :=
  let slots := s.limits.slots.take 12 ++ pool ++ List.replicate (20 - pool.length) none
  s.withLimits { s.limits with slots := slots, counts := counts, poolCount := counts.i + counts.c + counts.s
                               envelope := deriveEnvelope slots }

/-! ### Checks -/

/-- Whether the limit table is in order, slot by slot. -/
def tableOk (u : LimitUnit) : Bool :=
  decide (u.slots.length = 32) &&
  (List.range 32).all (fun i => match slotAt u i with
    | none => true
    | some c =>
        (if i < 12 then decide (internalKeys[i]? = some (keyOf c) ∧ c.hold = none ∧ c.reason = 0)
         else (sourcePort c.source).isSome && c.hold.isSome) &&
        (List.range 32).all fun j => match slotAt u j with
          | none => true
          | some d => decide (keyOf c = keyOf d → i = j)) &&
  [Port.i, .c, .s].all (fun p => decide (u.counts.get p = postedBy u.slots p ∧ u.counts.get p ≤ 8)) &&
  decide (u.poolCount = u.counts.i + u.counts.c + u.counts.s) &&
  decide (u.envelope = deriveEnvelope u.slots)

/-- A slot that holds a contribution is one of the 32. -/
theorem slot_lt_of_some {u : LimitUnit} (size : u.slots.length = 32) {i : Nat} {c : Contribution}
    (h : slotAt u i = some c) : i < 32 := by
  rw [← size]
  apply Classical.byContradiction
  intro hn
  simp [slotAt, List.getElem?_eq_none (Nat.le_of_not_lt hn)] at h

/-- A table that passes the check is in order. -/
theorem tableInv_of_ok {s : State} (h : tableOk s.limits = true) : TableInv s := by
  simp only [tableOk, Bool.and_eq_true, decide_eq_true_eq, List.all_eq_true, List.mem_range] at h
  obtain ⟨⟨⟨⟨size, slots⟩, counts⟩, pool⟩, env⟩ := h
  refine ⟨size, ?_, ?_, fun p => (counts p (by cases p <;> simp)).1,
    fun p => (counts p (by cases p <;> simp)).2, pool, env⟩
  · intro i c hc
    have := slots i (slot_lt_of_some size hc)
    rw [hc] at this
    simp only [Bool.and_eq_true] at this
    unfold SlotFits
    split
    · rename_i hi
      simpa [hi] using this.1
    · rename_i hi
      simpa [hi] using this.1
  · intro i j c d hc hd hk
    have := slots i (slot_lt_of_some size hc)
    rw [hc] at this
    simp only [Bool.and_eq_true, List.all_eq_true, List.mem_range] at this
    have := this.2 j (slot_lt_of_some size hd)
    rw [hd] at this
    exact of_decide_eq_true this hk

end Sys2Proof.Tests
end

