-- ==== Sys2Proof/Tests/Slice0.lean ====
section
/-! SUPPORT. Tests on the figures of the manual's worked sequences, one step each; the commands that the
checks of WellFormed refuse; and for every statement with hypotheses a witness that they can be met. -/

namespace Sys2Proof.Tests

open Sys2Proof.Machine Sys2Proof.Safety

-- Many checks by the kernel in one file: elaborated one after another, they need no thread each.
set_option Elab.async false

/-! ### Ill-formed commands -/

/-- A frame of 256 argument bytes is too long for its length byte (R188). -/
theorem test_wf_frame_too_long : (Instr.nop .i (frame (List.replicate 256 0x00))).wf = false := by
  decide +kernel
theorem test_wf_frame_of_255 : (Instr.nop .i (frame (List.replicate 255 0x00))).wf = true := by
  decide +kernel
/-- A transaction that holds its whole frame is not TRUNCATED (R188). -/
theorem test_wf_truncated_that_is_whole : (Instr.truncated .c [0x00, 0x01, 0x07] false).wf = false := by
  decide
theorem test_wf_truncated_one_byte_short : (Instr.truncated .c [0x00, 0x02, 0x07] false).wf = true := by
  decide
/-- 24H is SUBMIT DEMAND (R191). -/
theorem test_wf_unknown_that_is_known : (Instr.unknownRequest .s 0x24 (frame [])).wf = false := by decide
theorem test_wf_unknown_too_long :
    (Instr.unknownRequest .s 0x06 (frame (List.replicate 256 0x00))).wf = false := by decide +kernel
/-- Slot 11 belongs to the governor's own units, and there is no slot 32 (R21, R22). -/
theorem test_wf_hold_outside_the_pool : (Instr.holdTimerExpiryOfLimit 11).wf = false ∧
    (Instr.holdTimerExpiryOfLimit 32).wf = false ∧ (Instr.holdTimerExpiryOfLimit 12).wf = true ∧
    (Instr.holdTimerExpiryOfLimit 31).wf = true := by decide
/-- No word spells a command: the table gives no row any bits. -/
theorem test_no_word_spells_a_command : decodeTableWord 16 0x0000 = none ∧ decodeTableWord 16 0xFFFF = none :=
  ⟨rfl, rfl⟩

/-! ### Request frames -/

/-- CLAIM is code 20H with no arguments (R191); byte 1 is the argument length (R196). -/
theorem test_frame_claim : decodeFrame .c false [0x20, 0x00] = .claim .c (frame []) := by decide
/-- POST LIMIT is code 10H with 7 arguments; the bytes beyond 2 + n are ignored (R188). -/
theorem test_frame_post_limit :
    decodeFrame .s false [0x10, 0x07, 0x03, 0x02, 0x01, 0x5E, 0x07, 0xD0, 0x0C, 0x55] =
      .postLimit .s { speedPost with extra := [0x55] } := by decide
/-- COMMIT PROFILE is code 41H; its chip-select fell before the last reset ended (R187). -/
theorem test_frame_early : decodeFrame .i true [0x41, 0x00] = .commitProfile .i { args := [], early := true } := by
  decide
/-- Fewer than two bytes, and fewer than 2 + n (R188). -/
theorem test_frame_short : decodeFrame .i false [0x00] = .truncated .i [0x00] false ∧
    decodeFrame .i false [0x24, 0x07, 0x01] = .truncated .i [0x24, 0x07, 0x01] false := by decide
/-- 06H is in no row of R191 (R189). -/
theorem test_frame_unknown : decodeFrame .s false [0x06, 0x01, 0x09] = .unknownRequest .s 0x06 (frame [0x09]) := by
  decide
/-- A frame clocked in waits behind the commands that wait already. -/
theorem test_clock_in : (clockIn .c false [0x20, 0x00] (State.reset.withPending [.lvfEdge])).pending =
    [.lvfEdge, .claim .c (frame [])] := by decide +kernel

/-! ### Resets and time -/

/-- A reset keeps the strap's last sample and its cause; the strap is sampled as it ends (R177, R178, R187). -/
theorem test_power_on_during_a_line_reset :
    (after .powerOn (after (.resetLine .full) ready)).governor.resetCause = .powerOn ∧
    (after (.resetLine .full) (after .powerOn ready)).governor.resetCause = .powerOn ∧
    (after (.resetLine .full) ready).governor.resetCause = .resetLine := by decide +kernel
theorem test_reset_end_samples_the_inputs :
    let t := after (.resetEnd .notFitted true false) (after .powerOn ready)
    t.ports.strap = .notFitted ∧ t.grid.banks.one.feedback = true ∧ t.grid.banks.two.feedback = false ∧
      t.resetting = none := by decide +kernel
/-- The counter wraps (R1). -/
theorem test_counter_wraps :
    (passTime (State.reset.withCapture { Capture.reset with counter := 0xFFFFFFFF })).capture.counter = 0 := by
  decide +kernel

/-! ### Capture Unit -/

/-- The channel of *Worked sequence: one wheel channel from rest*: teeth 120, rpm_max_valid 3000. -/
def slowTeeth : State :=
  ready.withProfile ((ready.profile.store 0 0 (.scalar 120)).store 0 2 (.scalar 3000))

/-- The same channel after its first period. -/
def oneTooth : WheelChannel := { WheelChannel.reset with state := .turning, ring := [424], rpm := 1179 }

theorem test_wheel_edge_two_periods :
    let t := after (.wheelEdge .left) (edgeAt 423 oneTooth slowTeeth)
    t.capture.wheels.left.rpm = 1180 ∧ t.capture.wheels.left.ring = [424, 423] := by decide +kernel
theorem test_wheel_edge_noise :
    let t := after (.wheelEdge .left) (edgeAt 96 oneTooth slowTeeth)
    t.capture.wheels.left.rpm = 1179 ∧ t.capture.wheels.left.noiseRun = 1 ∧
      t.capture.wheels.left.prevStamp = some 0 := by decide +kernel
theorem test_wheel_timer_stops :
    let t := after (.wheelEdgeTimerExpiry .left) (turning 1180 1220 ready)
    t.capture.wheels.left.state = .stopped ∧ t.capture.v = 1220 * 212 / 2000 ∧ t.capture.vValid = true := by
  decide +kernel

/-- 1100 µs high in a period of 2000 µs: duty 550, angle +56 (R10). -/
def angleSample : AngleChannel :=
  { AngleChannel.reset with state := .ok, risingStamp := some 0, fallingStamp := some 1100 }
def withChannel (a : AngleChannel) (now : Stamp) (s : State) : State :=
  s.withCapture { s.capture with angle := a, counter := now }
theorem test_angle_of_duty_550 :
    let a := (after .angleRisingEdge (withChannel angleSample 2000 ready)).capture.angle
    a.duty = 550 ∧ a.angle = 56 ∧ a.fallingStamp = none := by decide +kernel
theorem test_second_falling_edge_is_not_taken :
    (after .angleFallingEdge (withChannel angleSample 1500 ready)).capture.angle.fallingStamp = some 1100 := by
  decide +kernel
theorem test_angle_timer_faults :
    let a := (after .angleEdgeTimerExpiry (withChannel { angleSample with edgeTimer := some 0, angle := 56 } 0
      ready)).capture.angle
    a.state = .fault ∧ a.angle = 0 ∧ a.risingStamp = none := by decide +kernel

/-- The link channel with a count. -/
def counted (n : Nat) (s : State) : State :=
  updCapture (fun c => { c with link := { c.link with running := n } }) s
theorem test_lvf_edge_counts : (after .lvfEdge (counted 559 ready)).capture.link.running = 560 := by
  decide +kernel
theorem test_gate_of_560_calls_the_dump :
    let t := after .linkGateExpiry (counted 560 ready)
    t.capture.link.v = 2300 ∧ t.overload.link.dump = true := by decide +kernel
theorem test_gate_of_87_is_sense_lost :
    let t := after .linkGateExpiry (counted 87 descent)
    t.capture.link.v = 1800 ∧ t.capture.link.state = .lost ∧ t.overload.link.lostRun = 1 := by decide +kernel

/-! ### Envelope Unit -/

/-- *Worked sequence: limits from three sources*: OK, CREATED, slot 12, order 1, 350, 2000 ms, counts 1, 1. -/
theorem test_post_limit_created :
    let s := internalWithdraw 2 ready
    let t := after (.postLimit .s speedPost) (s.withLimits { s.limits with nextOrder := 1 })
    (t.ports.recs.s.response.result =
      [0x00, 0x00, 0x0C, 0x00, 0x01, 0x01, 0x5E, 0x07, 0xD0, 0x01, 0x01]) ∧
    t.limits.envelope.speed = some ⟨350, .supervisor, 12⟩ := by decide +kernel
/-- A hold of 40000 is clamped to 30000. -/
theorem test_post_limit_clamps_the_hold :
    let t := after (.postLimit .c (frame [0x00, 0x00, 0x4E, 0x20, 0x9C, 0x40, 0x00])) posted
    (slotAt t.limits 13).bind (·.hold) = some ⟨30000, 30000000⟩ ∧ clampedFlag t .c = true ∧
      t.limits.envelope.propelL = some ⟨20000, .cab, 13⟩ := by decide +kernel
theorem test_withdraw_limit :
    let t := after (.withdrawLimit .s (frame [0x03, 0x02])) posted
    slotAt t.limits 12 = none ∧ t.limits.counts.s = 0 ∧
      t.ports.recs.s.response.result = [0x00, 0x0C, 0x00, 0x02, 0x01, 0x5E, 0x07, 0xD0, 0x00, 0x00] := by
  decide +kernel
theorem test_limit_hold_expires :
    let t := after (.holdTimerExpiryOfLimit 12) posted
    slotAt t.limits 12 = none ∧ t.ports.recs.s.queue.getLast?.map Notice.kind = some 0x02 ∧
      t.ports.recs.c.queue = posted.ports.recs.c.queue := by decide +kernel

/-! ### Authority Unit -/

/-- *An operator takeover on a ramp*, 0 ms: OK, HANDOVER_STARTED, with the deadline at 1500 ms. -/
theorem test_claim_starts_a_handover :
    (after (.claim .c (frame [])) descent).ports.recs.c.response.result =
      [0x00, 0x01, 0x02, 0x01, 0x00, 0x00, 0x05, 0xDC] := by decide +kernel
/-- *A blend during handover*, 300 ms: OPERATOR_TAKEOVER. -/
theorem test_claim_in_a_handover :
    (after (.claim .s (frame [])) (withRecord handover descent)).ports.recs.s.response.result.head? =
      some 0x1D := by decide +kernel
/-- *An operator takeover on a ramp*, 60 ms: taken as YIELD; the mode stays ACTIVE. -/
theorem test_release_in_a_handover :
    let t := after (.release .s (frame [])) (withRecord handover descent)
    t.authority.record = heldBy .cab ∧ t.governor.mode = .active ∧
      t.ports.recs.s.response.result.take 2 = [0x00, 0x05] := by decide +kernel
/-- A RELEASE of the Supervisor on a moving truck is refused MOVING. -/
theorem test_release_moving :
    (after (.release .s (frame [])) descent).ports.recs.s.response.result.head? = some 0x1A := by decide +kernel
/-- A YIELD after the deadline is refused NOT_HOLDER. -/
theorem test_yield_after_the_deadline :
    (after (.yieldAuthority .s (frame [])) (withRecord (heldBy .cab) descent)).ports.recs.s.response.result.head? =
      some 0x1B := by decide +kernel
theorem test_withdraw_bid :
    let t := after (.withdrawBid .s (frame [])) (withRecord bid descent)
    t.authority.record = heldBy .cab ∧ t.ports.recs.s.response.result.take 2 = [0x00, 0x06] := by decide +kernel
/-- A retard above 1000 is clamped; FFFFH is no setpoint (R58). -/
theorem test_submit_demand_clamps :
    let t := after (.submitDemand .c (frame [0x02, 0x00, 0xC8, 0x03, 0xE9, 0xFF, 0xFF])) descent
    t.authority.demands.cab = { freshDemand 200 1000 none with direction := .reverse } ∧
      clampedFlag t .c = true := by decide +kernel
theorem test_deadline_gives_the_cab_the_truck :
    let t := after .handoverDeadlineExpiry (withRecord handover descent)
    t.authority.record = heldBy .cab ∧
      .authority .deadline .held (some .cab) none false ∈ t.ports.recs.i.queue := by decide +kernel
theorem test_demand_goes_stale :
    let t := after (.demandLifetimeExpiry .supervisor) (withRecord handover descent)
    .demandStale .supervisor .holder .forward 0 ∈ t.ports.recs.i.queue ∧
      t.hold.ctx.staleSource = some 254 := by decide +kernel

/-! ### Effort Resolver -/

/-- *Worked pass: a loaded descent*: 5702 and 5702 under 14560 and 14240, REQUEST; and *Worked figures: duty at
a loaded descent*: 1432 kW, 641 kW for each bank, duty 159. -/
theorem test_pass_4812 :
    let t := after .resolutionTimerExpiry descent
    let g := t.resolver.last
    (g.pass = 4812 ∧ g.wheels.left.torque = 5702 ∧ g.wheels.right.torque = 5702 ∧ g.wheels.left.cap = 14560 ∧
      g.wheels.right.cap = 14240 ∧ g.wheels.left.binding = .request ∧ g.holdEngaged = true) ∧
    (t.grid.pReq = 1432 ∧ t.grid.pDis = 1282 ∧ t.grid.banks.one.share = 641 ∧
      t.grid.banks.one.dutyPending = 159 ∧ t.grid.banks.two.dutyPending = 159) := by decide +kernel
/-- *Worked sequence: grid power falls and returns*: 4046 and 3913, POWER_SHARE. -/
theorem test_pass_4813_with_1000_kw :
    let g := (after .resolutionTimerExpiry (internalPost 1 1000 descent)).resolver.last
    g.wheels.left.torque = 4046 ∧ g.wheels.right.torque = 3913 ∧ g.wheels.left.binding = .powerShare := by
  decide +kernel

/-! ### Grade Hold Unit -/

/-- *Worked figures: holding a descent*, update 1: I 156,000, B_hold 396. -/
theorem test_hold_update_one :
    let s := updCtx (fun c => { c with integral := 150000 })
      (withSpeed 312 false (withDemands .reset (freshDemand 0 0 (some 300)) descent))
    let c := (after .holdTimerExpiry s).hold.ctx
    c.integral = 156000 ∧ c.bHold = 396 ∧ c.lastError = 12 := by decide +kernel
/-- *Worked sequence: a bank lost under hold*, 40 ms: I held, B_hold 496, the overspeed timer at 1000 ms. -/
theorem test_hold_update_capped :
    let s := updCtx (fun c => { c with lastGrant := ⟨.retard, .powerShare, .powerShare, 1⟩ })
      (withSpeed 317 false (withDemands .reset (freshDemand 0 0 (some 300)) descent))
    let h := (after .holdTimerExpiry s).hold
    h.ctx.integral = 156000 ∧ h.ctx.bHold = 496 ∧ h.ctx.windupHeld = true ∧
      h.brake.overspeedTimer = some 1000000 := by decide +kernel
/-- The brake timers of *A grid bank lost at full retard*, 1340 ms, and R104. -/
theorem test_overspeed_asserts :
    let t := after .overspeedTimerExpiry (updBrake (fun b => { b with overspeedTimer := some 0 }) descent)
    t.hold.brake.asserted = true ∧ .brake true true false .active ∈ t.ports.recs.i.queue := by decide +kernel
theorem test_no_retard_asserts :
    let t := after .noRetardTimerExpiry (updBrake (fun b => { b with noRetardTimer := some 0 }) descent)
    t.hold.brake.noRetard = true ∧ .brake true false true .active ∈ t.ports.recs.i.queue := by decide +kernel

/-! ### Grid Drive Unit -/

/-- *Worked sequence: closing, retard and a dump*, 36.4 ms: CLOSED with 2000 kW. -/
theorem test_feedback_closes_the_bank :
    let t := after (.feedbackRises .one) active
    t.grid.banks.one.contactor = .closed ∧ t.grid.gridValue = 2000 ∧
      t.limits.envelope.retardPower = some ⟨2000, .grid, 1⟩ := by decide +kernel
/-- *A grid bank lost at full retard*, 0 ms. -/
theorem test_feedback_dropped :
    let t := after (.feedbackFalls .one) descent
    t.grid.banks.one.failure = some .dropped ∧ t.grid.gridValue = 2000 ∧
      t.governor.trips = [.grid1Contactor] ∧ t.governor.mode = .active ∧ t.hold.brake.gridSeen = 2000 := by
  decide +kernel
theorem test_contactor_does_not_close :
    let t := after (.handshakeTimerExpiry .two) active
    t.grid.banks.two.failure = some .noClose ∧ t.governor.trips = [.grid2Contactor] := by decide +kernel
/-- Duty 159 of a period of 2000 µs: the gate is on 318 µs. -/
theorem test_boundary_takes_duty_159 :
    let k := bankOf (after (.periodBoundary .one)
      (updBank .one (fun k => { k with dutyPending := 159, boundary := some 0 }) closed)) .one
    k.dutyActive = 159 ∧ k.enableActive = true ∧ k.gate = true ∧ k.onTime = some 318 ∧
      k.boundary = some 2000 := by decide +kernel
theorem test_on_time_ends :
    (bankOf (after (.chopperOnTimeEnd .one)
      (updBank .one (fun k => { k with gate := true, onTime := some 0 }) closed)) .one).gate = false := by
  decide +kernel

/-! ### Steering Monitor -/

/-- Angle +200: r 854, inner RIGHT, shares 540 and 460 (R132's table). -/
theorem test_steering_run_at_200 :
    let u := (after .steeringTimerExpiry (withAngle 200 closed)).steering
    u.ratio = 854 ∧ u.inner = .right ∧ u.shares = ⟨540, 460⟩ := by decide +kernel
/-- *A slide on a wet switchback*, run 2: deviation −161, SLIPPING, cap 4503 in slot 6. -/
theorem test_slide_run_two :
    let s := updSlip .left (fun r => { r with state := .suspect, modeAt := some .retard })
      (updSteering (fun u => { u with lastGrant := ⟨.retard, ⟨6005, 7050⟩, ⟨16000, 16000⟩, 1⟩ })
        (turning 430 600 (withAngle (-200) closed)))
    let t := after .steeringTimerExpiry s
    t.steering.slips.left.state = .slipping ∧ t.steering.slips.left.deviation = -161 ∧
      (slotAt t.limits 6).map (·.value) = some 4503 ∧ t.steering.slips.right.state = .normal := by
  decide +kernel
/-- Payload 2600 of 2400: ratio 1083, OVER1, slot 3 at 500. -/
theorem test_report_cab_weighs_the_truck :
    let t := after (.reportCab .c (frame [0x0A, 0x28, 0x00, 0x00])) (withSpeed 0 true closed)
    t.overload.payload = { payload := 2600, ratio := 1083, level := .over1, cap := some 500 } ∧
      (slotAt t.limits 3).map (·.value) = some 500 := by decide +kernel
theorem test_cab_status_expires :
    let t := after .cabStatusLifetimeExpiry (updCab (fun c =>
      { c with freshness := .fresh, lifetime := some 0 }) closed)
    t.steering.cab.freshness = .stale ∧ (slotAt t.limits 2).map (·.value) = some 80 := by decide +kernel

/-! ### Overload Monitor -/

theorem test_report_drive :
    (after (.reportDrive .i (frame [0x01, 0x00, 0x06, 0x18, 0x00, 0x00])) ready).overload.report =
      { ready := ⟨true, false⟩, current := ⟨1560, 0⟩, freshness := .fresh, lifetime := some 100000 } := by
  decide +kernel
theorem test_drive_report_expires :
    (after .driveReportLifetimeExpiry descent).overload.report.freshness = .stale := by decide +kernel
/-- *Worked figures: a motor through its ladder*: the first update. -/
theorem test_overload_first_update :
    let i := (after .overloadTimerExpiry (readyDrives 1560 ready)).overload.integrators.ml
    i.heat = 420740 ∧ i.theta = 701 ∧ i.level = .normal := by decide +kernel
/-- The same, row c + 1: H 659,150, θ 1098, d 856, slots 8 and 9 at 17120. -/
theorem test_overload_row_c :
    let t := after .overloadTimerExpiry (updIntegrator .ml (fun i =>
      { i with heat := 660000, theta := 1100, level := .derate, derate := 850 }) (readyDrives 650 ready))
    t.overload.integrators.ml.heat = 659150 ∧ t.overload.integrators.ml.derate = 856 ∧
      (slotAt t.limits 8).map (·.value) = some 17120 ∧ (slotAt t.limits 9).map (·.value) = some 17120 := by
  decide +kernel
theorem test_dwell_lowers_the_level :
    let t := after (.dwellTimerExpiry .ml) (updIntegrator .ml (fun i =>
      { i with heat := 594000, theta := 990, level := .derate, derate := 1000, dwell := some 0 }) ready)
    t.overload.integrators.ml.level = .warm ∧ t.overload.integrators.ml.dwell = none := by decide +kernel

/-! ### Governor Control -/

/-- A link trip and a motor trip: *Worked sequence: a link trip on a descent, then a motor trip*. -/
def tripped : State :=
  latch .motorLThermal (updIntegrator .ml (fun i =>
    { i with level := .trip, derate := 400, heat := 714000, theta := 1190 }) (latch .linkOvervoltage closed))
theorem test_clear_trips_at_25000_ms :
    let t := after (.clearTrips .c (frame [])) (withSpeed 0 true tripped)
    t.governor.trips = [.motorLThermal] ∧ t.governor.mode = .active ∧
      t.ports.recs.c.response.result =
        [0x01, 0x00, 0x03, 0x01, 0x00, 0x02, 0x00, 0x00, 0x00, 0x00, 0x00, 0x02] := by decide +kernel
theorem test_clear_trips_at_400000_ms :
    let s := updIntegrator .ml (fun i => { i with heat := 505200, theta := 842 })
      (after (.clearTrips .c (frame [])) (withSpeed 0 true tripped))
    let t := after (.clearTrips .c (frame [])) s
    t.governor.trips = [] ∧ t.governor.firstCause = none ∧ slotAt t.limits 0 = none ∧
      t.overload.integrators.ml.level = .normal := by decide +kernel

/-! ### Profile Store -/

/-- *Worked example: a commit refused and repeated*. -/
theorem test_commit_names_the_breakpoint :
    (after (.commitProfile .i (frame [])) (loaded.withProfile (sample.store 2 4 (.point 1500 7200)))).ports.recs.i.response.result =
      [0x1F, 0x02, 0x04, 0x02] := by decide +kernel
theorem test_commit_enters_ready :
    let t := after (.commitProfile .i (frame [])) loaded
    t.ports.recs.i.response.result = [0x00, 0x01] ∧ t.governor.mode = .ready ∧
      t.ports.recs.c.queue.map Notice.kind = [0x0C, 0x01, 0x01, 0x0A] := by decide +kernel
theorem test_profile_write_clamps :
    let t := after (.profileWrite .i (frame [0x09, 0x05, 0x00, 0x00, 0x00, 0x03])) State.reset
    t.ports.recs.i.response.result = [0x00, 0x09, 0x05, 0x05] ∧ clampedFlag t .i = true := by decide +kernel
theorem test_profile_write_locked :
    (after (.profileWrite .i (frame [0x09, 0x05, 0x00, 0x00, 0x00, 0x14])) ready).ports.recs.i.response.result =
      [0x1E] := by decide +kernel

/-! ### Master Port Unit -/

/-- A NOP clocks the last response out and gives it again with REPEAT (R188, R196). -/
theorem test_nop_repeats :
    let t := after (.nop .c (frame [])) (after (.claim .c (frame [])) descent)
    t.ports.recs.c.response.result = [0x00, 0x01, 0x02, 0x01, 0x00, 0x00, 0x05, 0xDC] ∧
      t.ports.recs.c.response.status = 0xAA ∧ t.ports.recs.c.sdo = [0x8A, 0x20] := by decide +kernel
/-- After a reset the last response is NONE (R190). -/
theorem test_nop_after_reset :
    (after (.nop .s { args := [], extra := [0x00, 0x00, 0x00] }) State.reset).ports.recs.s.sdo =
      [0x80, 0xFF, 0x01, 0xFF, 0x00] := by decide +kernel
theorem test_truncated :
    let r := (after (.truncated .i [0x10, 0x07, 0x00] false) ready).ports.recs.i.response
    r.echo = 0xFF ∧ r.result = [0x12] := by decide +kernel
theorem test_unknown_request :
    (after (.unknownRequest .i 0x06 (frame [])) ready).ports.recs.i.response.result = [0x13] ∧
    (after (.unknownRequest .s 0x06 (frame [])) (ready.withPorts { ready.ports with strap := .notFitted })).ports.recs.s.response.result =
      [0x11] := by decide +kernel
/-- GRANT is two records of 25 bytes (R197); DEMAND needs a party (R192). -/
theorem test_read_record :
    (after (.readRecord .s (frame [0x03])) descent).ports.recs.s.response.result.length = 51 ∧
    (after (.readRecord .s (frame [0x02])) descent).ports.recs.s.response.result = [0x14] ∧
    (after (.readRecord .s (frame [0x02, 0x01])) descent).ports.recs.s.response.result =
      [0x00, 0x01, 0x00, 0x00, 0x00, 0x00, 0x00, 0xF2, 0x00, 0x01, 0x2C] := by decide +kernel
/-- A field of each bank, then the next field (R197): both CLOSED (02H), no failure cause, both commands set. -/
theorem test_read_banks_field_by_field :
    (banksRecord closed).take 6 = [0x02, 0x02, 0xFF, 0xFF, 0x01, 0x01] := by decide +kernel
/-- WHEELS: both TURNING (01H), then the rpm 1180 and 1220 (R18, R197). -/
theorem test_read_wheels_field_by_field :
    (wheelsRecord descent).take 6 = [0x01, 0x01, 0x04, 0x9C, 0x04, 0xC4] := by decide +kernel
/-- Slots 1 and 2 after the commit: the sources GRID and STEER, then their kinds RETARD_POWER and SPEED (R20, R41). -/
theorem test_read_slots_field_by_field :
    ((after (.readTable .s (frame [0xFF, 0x01, 0x02])) ready).ports.recs.s.response.result.drop 1).take 6 =
      [0x01, 0x02, 0x02, 0x03, 0x02, 0x02] := by decide +kernel
/-- The last slots of the limit table, and the first entry of section 07H (R41, R185). -/
theorem test_read_table :
    (after (.readTable .s (frame [0xFF, 0x1F, 0x08])) ready).ports.recs.s.response.result =
      0x00 :: (List.replicate 12 0xFF ++ [0x00, 0x00, 0x00, 0x00]) ∧
    (after (.readTable .s (frame [0x07, 0x00, 0x01])) ready).ports.recs.s.response.result =
      [0x00, 0x08, 0xFC, 0x01] := by decide +kernel
/-- MODE, CONFIG to READY, COMMIT; and the three that wait (R183, R194, R197). -/
theorem test_take_notices :
    let t := after (.takeNotices .c (frame [0x01])) ready
    t.ports.recs.c.response.result =
      [0x00, 0x01, 0x03, 0x0C, 0x01, 0x00, 0x00, 0xFF, 0x00, 0x00, 0x00, 0x00, 0x00] ∧
    t.ports.recs.c.queue.length = 3 := by decide +kernel
theorem test_take_notices_none :
    (after (.takeNotices .c (frame [0x04])) State.reset).ports.recs.c.response.result =
      [0x00, 0x00, 0x00, 0x00, 0x00, 0x00, 0x00, 0x00, 0x00, 0x00, 0x00, 0x00, 0x00] := by decide +kernel
theorem test_set_notice_mask :
    (after (.setNoticeMask .c (frame [0x04, 0x01])) ready).ports.recs.c.response.result =
      [0x00, 0x04, 0x01, 0x01] ∧
    (after (.setNoticeMask .c (frame [0x10, 0x00])) ready).ports.recs.c.response.result = [0x14] := by
  decide +kernel
theorem test_set_notice_threshold :
    let t := after (.setNoticeThreshold .c (frame [0x05])) ready
    ready.ports.recs.c.lineActive = true ∧ t.ports.recs.c.lineActive = false ∧
      t.ports.recs.c.response.result = [0x00, 0x0F, 0xFF, 0x05] := by decide +kernel
/-- An ENVELOPE entry is replaced in its place; a seventeenth notice is dropped (R193). -/
theorem test_queue_replaces_and_overflows :
    let full := { PortRecord.reset with queue := List.replicate 16 (.payload .none 0 0 none) }
    (enqueue full (.payload .over1 0 0 none)).overflow = true ∧
    (enqueue { full with queue := [.envelope .speed none, .payload .none 0 0 none] }
      (.envelope .speed (some (350, .supervisor)))).queue =
        [.envelope .speed (some (350, .supervisor)), .payload .none 0 0 none] := by decide +kernel

/-! ### Witnesses: the invariants -/

/-- The descent, with bank 1's feedback about to fall. -/
def moving : State := descent.withPending [.feedbackFalls .one]

/-- A request that is taken. -/
theorem taken {r : Request} {p : Port} {f : Frame} {s : State}
    (h : s.resetting = none ∧ f.early = false ∧ unfitted s p = false ∧ permitted r p = true) :
    Taken r p f s := ⟨h.1, h.2.1, h.2.2.1, h.2.2.2⟩

theorem moving_modeInv : ModeInv moving := by constructor <;> decide +kernel
theorem moving_brakeLineInv : BrakeLineInv moving := by unfold BrakeLineInv; decide +kernel
theorem moving_holdInv : HoldInv moving := by constructor <;> decide +kernel
theorem moving_tableInv : TableInv moving := tableInv_of_ok (by decide +kernel)
theorem moving_gridInv : GridInv moving := by
  constructor <;> first | (constructor <;> decide +kernel) | decide +kernel
theorem moving_grantInv : GrantInv moving := by
  constructor
  · intro w; cases w <;> decide +kernel
  · intro w; cases w <;> decide +kernel
  · decide +kernel
theorem moving_authInv : AuthInv moving := by
  have record : moving.authority.record = heldBy .supervisor := by decide +kernel
  refine ⟨by rw [record]; exact .supervisor, ?_, ?_, ?_⟩ <;> decide +kernel
theorem moving_tripInv : TripInv moving := by
  constructor
  · intro e; cases e <;> decide +kernel
  · intro b; cases b <;> decide +kernel
  · decide +kernel
  · decide +kernel
theorem moving_heatInv : HeatInv moving := by intro _ e; cases e <;> decide +kernel
theorem moving_postsInv : PostsInv moving := by
  constructor
  · decide +kernel
  · decide +kernel
  · intro w m; cases w <;> cases m <;> decide +kernel
  · intro w; cases w <;> decide +kernel
  · intro w; cases w <;> decide +kernel
  · intro b; cases b <;> decide +kernel
  · intro h; exact absurd h (by decide +kernel)
theorem moving_queueInv : QueueInv moving := by
  constructor
  · intro p; cases p <;> constructor <;> decide +kernel
  · intro h; exact absurd h (by decide +kernel)

theorem active_gridInv : GridInv active := by
  constructor <;> first | (constructor <;> decide +kernel) | decide +kernel
theorem closed_gridInv : GridInv closed := by
  constructor <;> first | (constructor <;> decide +kernel) | decide +kernel
/-- The Cab releasing at rest, and claiming. -/
def releasing : State := (withSpeed 0 true closed).withPending [.release .c (frame [])]
def claiming : State := ready.withPending [.claim .c (frame [])]
theorem releasing_invs : ModeInv releasing ∧ GridInv releasing := by
  refine ⟨by constructor <;> decide +kernel, ?_⟩
  constructor <;> first | (constructor <;> decide +kernel) | decide +kernel
theorem claiming_invs : ModeInv claiming ∧ GridInv claiming := by
  refine ⟨by constructor <;> decide +kernel, ?_⟩
  constructor <;> first | (constructor <;> decide +kernel) | decide +kernel
/-- A change of mode out of ACTIVE, with the banks CLOSING and CLOSED; into ACTIVE, with them OPEN and with one
CLOSED and its open pending; and a change that is neither. -/
theorem witness_EveryStepKeepsTheMode :
    (∃ s t, ModeInv s ∧ step s = .next t) ∧
    (∀ s, s ∈ [active, closed, ready] → GridInv s ∧ s.hold.ctx.modeSeen = s.governor.mode ∧
      s.grid.modeSeen = s.governor.mode) ∧
    (active.governor.mode = .active ∧ (bankOf active .one).contactor = .closing ∧
      closed.governor.mode = .active ∧ (bankOf closed .one).contactor = .closed ∧
      ready.governor.mode = .ready ∧ (bankOf ready .one).contactor = .open) ∧
    (let s := changeMode .inhibit .clear closed
     s.governor.mode = .inhibit ∧ (bankOf s .one).contactor = .closed ∧ (bankOf s .one).openPending = true) ∧
    (∃ t, ModeInv releasing ∧ GridInv releasing ∧ step releasing = .next t ∧ t.resetting = none ∧
      releasing.governor.mode = .active ∧ t.governor.mode ≠ .active) ∧
    (∃ t, ModeInv claiming ∧ GridInv claiming ∧ step claiming = .next t ∧ t.resetting = none ∧
      claiming.governor.mode ≠ .active ∧ t.governor.mode = .active ∧ (bankOf t .one).levelSeen ≠ .trip) := by
  refine ⟨⟨_, _, moving_modeInv, rfl⟩, ?_, by decide +kernel, by decide +kernel,
    ⟨_, releasing_invs.1, releasing_invs.2, rfl, by decide +kernel, by decide +kernel, by decide +kernel⟩,
    ⟨_, claiming_invs.1, claiming_invs.2, rfl, by decide +kernel, by decide +kernel, by decide +kernel,
      by decide +kernel⟩⟩
  intro s h
  simp only [List.mem_cons, List.not_mem_nil, or_false] at h
  rcases h with rfl | rfl | rfl
  · exact ⟨active_gridInv, by decide +kernel, by decide +kernel⟩
  · exact ⟨closed_gridInv, by decide +kernel, by decide +kernel⟩
  · exact ⟨by constructor <;> first | (constructor <;> decide +kernel) | decide +kernel, by decide +kernel,
      by decide +kernel⟩
theorem witness_EveryStepKeepsTheHoldUnit : ∃ s t, ModeInv s ∧ BrakeLineInv s ∧ HoldInv s ∧ step s = .next t :=
  ⟨_, _, moving_modeInv, moving_brakeLineInv, moving_holdInv, rfl⟩
theorem witness_EveryStepKeepsTheLimitTable : ∃ s t, TableInv s ∧ PostsInv s ∧ step s = .next t :=
  ⟨_, _, moving_tableInv, moving_postsInv, rfl⟩
theorem witness_EveryStepKeepsTheBanks : ∃ s t, TableInv s ∧ GridInv s ∧ step s = .next t :=
  ⟨_, _, moving_tableInv, moving_gridInv, rfl⟩
theorem moving_shareInv : ShareInv moving := by unfold ShareInv; decide +kernel
theorem witness_EveryStepKeepsTheGrants : (∃ s t, ModeInv s ∧ GrantInv s ∧ step s = .next t) ∧
    ∃ s t, ShareInv s ∧ step s = .next t :=
  ⟨⟨_, _, moving_modeInv, moving_grantInv, rfl⟩, _, _, moving_shareInv, rfl⟩
theorem witness_EveryStepKeepsAuthority : ∃ s t, AuthInv s ∧ step s = .next t := ⟨_, _, moving_authInv, rfl⟩
theorem witness_EveryStepKeepsTheTripRecord : ∃ s t, TableInv s ∧ GridInv s ∧ TripInv s ∧ step s = .next t :=
  ⟨_, _, moving_tableInv, moving_gridInv, moving_tripInv, rfl⟩
theorem witness_EveryStepKeepsTheNoticeQueues : ∃ s t, QueueInv s ∧ step s = .next t ∧ s.resetting = none ∧
    t.resetting = none ∧ (bankOf s .one).contactor ≠ (bankOf t .one).contactor ∧
    s.governor.trips ≠ t.governor.trips :=
  ⟨_, _, moving_queueInv, rfl, by decide +kernel, by decide +kernel, by decide +kernel, by decide +kernel⟩
theorem witness_HeatStaysBoundedAndTripStays : (∃ s t, HeatInv s ∧ step s = .next t) ∧
    ∃ c s t, exec c s = .next t ∧ (s.overload.integrators.get .ml).level = .trip :=
  ⟨⟨_, _, moving_heatInv, rfl⟩, .lvfEdge, tripped, _, rfl, by decide +kernel⟩
/-- Whether the store can hold every entry of a list of sections. -/
def entriesFit (p : Profile) : Bool :=
  (List.range 13).all fun sec => (List.range 25).all fun idx =>
    match entrySpec? sec idx, p.entry sec idx with
    | some (.scalar lo hi), .scalar v => v == 0 || (decide (lo ≤ v) && decide (v ≤ hi))
    | some .count, .scalar v => v == 0 || (decide (2 ≤ v) && decide (v ≤ 16))
    | some .point, .point speed torque => decide (speed ≤ 4000) && decide (torque ≤ 32000)
    | none, _ => true
    | _, _ => false
theorem lt_of_entrySpec {sec idx : Nat} {spec : EntrySpec} (h : entrySpec? sec idx = some spec) :
    sec < 13 ∧ idx < 25 := by
  simp only [entrySpec?, sectionSpec?, Option.bind_eq_some_iff] at h
  obtain ⟨l, hl, hi⟩ := h
  have hs : sec < 13 := by
    have e : profileSpec.length = 13 := by decide +kernel
    exact e ▸ (List.getElem?_eq_some_iff.mp hl).1
  have hlen : ∀ n, n < 13 → ∀ l, profileSpec[n]? = some l → l.length ≤ 25 := by decide +kernel
  exact ⟨hs, Nat.lt_of_lt_of_le (List.getElem?_eq_some_iff.mp hi).1 (hlen sec hs l hl)⟩
theorem profileInv_of_fit {s : State} (sections : s.profile.sections.map List.length = profileSpec.map List.length)
    (fit : entriesFit s.profile = true) (passed : s.profile.committed = false) : ProfileInv s := by
  refine ⟨sections, fun sec idx spec h => ?_, fun h => absurd h (by simp [passed])⟩
  simp only [entriesFit, List.all_eq_true, List.mem_range] at fit
  have := fit sec (lt_of_entrySpec h).1 idx (lt_of_entrySpec h).2
  rw [h] at this
  cases spec <;> cases he : s.profile.entry sec idx <;> simp_all [EntryFits]
theorem witness_CommittedProfileIsFrozen : (∃ s t, s.profile.committed = true ∧ step s = .next t) ∧
    ∃ s t, ProfileInv s ∧ step s = .next t :=
  ⟨⟨moving, _, by decide +kernel, rfl⟩, loaded.withPending [.commitProfile .i (frame [])], _,
    profileInv_of_fit (by decide +kernel) (by decide +kernel) rfl, rfl⟩

/-! ### Witnesses: steps and resets -/

theorem witness_ClockMovesWhenNoCommandWaits :
    (after .powerOn State.reset).pending = [] ∧ (after .powerOn State.reset).resetting.isSome = true ∧
    (State.reset.pending = [] ∧ State.reset.resetting = none ∧ dueExpiries State.reset = []) ∧
    (let s := updCapture (fun c => { c with link := { c.link with gateTimer := some 0 } }) State.reset
     s.pending = [] ∧ s.resetting = none ∧ dueExpiries s ≠ []) := by decide +kernel
theorem witness_EveryCommandCompletes :
    (Instr.wheelEdge .left).wf = true ∧
    exec (.truncated .i [0x00, 0x00] false) State.reset = .refused .illFormed := ⟨rfl, rfl⟩
theorem witness_ResetSourcesReachEveryBlock :
    State.reset.resetting = none ∧ (after .powerOn State.reset).resetting.isSome = true := by decide +kernel
theorem witness_NothingIsTakenDuringAReset :
    (after .powerOn ready).resetting.isSome = true ∧ Instr.lvfEdge.wf = true ∧ Instr.lvfEdge ≠ .powerOn ∧
    (∀ pulse, Instr.lvfEdge ≠ .resetLine pulse) ∧ ∀ sfit one two, Instr.lvfEdge ≠ .resetEnd sfit one two := by
  refine ⟨by decide +kernel, rfl, nofun, nofun, nofun⟩

/-! ### Witnesses: the Capture Unit -/

/-- A channel with its runs. -/
def channel (st : WheelState) (noise clear : Nat) : WheelChannel :=
  { WheelChannel.reset with state := st, noiseRun := noise, clearRun := clear }

/-- The noise limit of the profile is 250 µs. -/
theorem witness_WheelEdgeThatIsNoTooth :
    (loaded.resetting = none ∧ loaded.profile.committed = false) ∧
    (ready.resetting = none ∧ ready.profile.committed = true ∧
      (ready.capture.wheels.get .left).prevStamp = none) ∧
    ∀ c, c ∈ [channel .fault 0 9, channel .turning 2 0, channel .turning 3 0, channel .stopped 3 0] →
      let s := edgeAt 249 c ready
      s.resetting = none ∧ s.profile.committed = true ∧ (s.capture.wheels.get .left).prevStamp = some 0 ∧
      (s.capture.counter - (0 : Stamp)).toNat < 60000000 / (rpmMaxValid s * teeth s) ∧
      (s.capture.wheels.get .left).state = c.state ∧ (s.capture.wheels.get .left).noiseRun = c.noiseRun := by
  refine ⟨by decide +kernel, by decide +kernel, ?_⟩
  decide +kernel
theorem witness_WheelEdgeThatEndsAValidPeriod :
    ∀ c, c ∈ [channel .stopped 0 0, channel .turning 3 0, channel .fault 0 14, channel .fault 0 15] →
      let s := edgeAt 250 c ready
      s.resetting = none ∧ s.profile.committed = true ∧ (s.capture.wheels.get .left).prevStamp = some 0 ∧
      60000000 / (rpmMaxValid s * teeth s) ≤ (s.capture.counter - (0 : Stamp)).toNat ∧
      (s.capture.wheels.get .left).state = c.state ∧ (s.capture.wheels.get .left).clearRun = c.clearRun := by
  decide +kernel
theorem witness_WheelEdgeTimerStopsTheChannel :
    ready.resetting = none ∧ (ready.capture.wheels.get .left).edgeTimer.isSome = true := by decide +kernel

/-- An angle channel with its two stamps and its runs. -/
def angleAt (st : AngleState) (fall : Stamp) (out valid : Nat) : State :=
  withChannel { AngleChannel.reset with state := st, risingStamp := some 0, fallingStamp := some fall,
                                        outRun := out, validRun := valid, edgeTimer := some 0 } 1000 ready

/-- A period of 1000 µs with 50 µs high is valid and one with 49 µs is not. -/
theorem witness_AngleChannelFollowsItsEdges :
    (ready.resetting = none ∧ ready.capture.angle.risingStamp = none) ∧
    (∀ s, s ∈ [angleAt .ok 50 2 0, angleAt .fault 50 0 8, angleAt .fault 50 0 9] →
      s.resetting = none ∧ s.capture.angle.risingStamp = some 0 ∧ s.capture.angle.fallingStamp = some 50 ∧
      s.capture.angle.edgeTimer.isSome = true ∧ (s.capture.counter - 0).toNat = 1000) ∧
    (∀ s, s ∈ [angleAt .ok 49 1 0, angleAt .ok 49 2 0, angleAt .fault 49 0 9] →
      s.resetting = none ∧ s.capture.angle.risingStamp = some 0 ∧ s.capture.angle.fallingStamp = some 49 ∧
      (s.capture.counter - 0).toNat = 1000) ∧
    (50 ≤ 50 * 1000 / 1000 ∧ ¬ 50 ≤ 49 * 1000 / 1000) := by
  refine ⟨by decide +kernel, ?_, ?_, by decide⟩ <;> decide +kernel
theorem witness_LinkChannelReadsItsGate :
    (loaded.resetting = none ∧ loaded.capture.link.gateTimer.isSome = true ∧
      loaded.profile.committed = false) ∧
    (ready.resetting = none ∧ ready.capture.link.gateTimer.isSome = true ∧ ready.profile.committed = true) ∧
    (counted 100 ready).capture.link.running = 100 ∧ (counted 99 ready).capture.link.running = 99 := by
  decide +kernel

/-! ### Witnesses: the Envelope Unit -/

theorem witness_EnvelopeFieldIsTheSmallestInTheLowestSlot :
    (deriveEnvelope posted.limits.slots).field .speed = some ⟨80, .steer, 2⟩ ∧
    (∃ c, posted.limits.slots[12]? = some (some c) ∧ applies .speed c = true) ∧
    (deriveEnvelope posted.limits.slots).field .propelL = none := by
  refine ⟨by decide +kernel, ⟨{ limitOf .s .speed .axle with
    value := 350, reason := 12, order := 2, hold := some ⟨2000, 2000000⟩ }, by decide +kernel⟩,
    by decide +kernel⟩
theorem posted_tableInv : TableInv posted := tableInv_of_ok (by decide +kernel)
theorem witness_PostLimitReplacesAPresentKey :
    ∃ c, TableInv posted ∧ Taken .postLimit .s speedPost posted ∧
      speedPost.args = [0x03, 0x02, 0x01, 0x5E, 0x07, 0xD0, 0x0C] ∧
      kindOf? (0x03 : Byte).toNat = some .speed ∧ scopeOf? (0x02 : Byte).toNat = some .axle ∧
      (Kind.speed = .retardPower ∨ Kind.speed = .speed → Scope.axle = .axle) ∧
      slotAt posted.limits 12 = some c ∧ keyOf c = (portSource .s, .speed, .axle) :=
  ⟨{ limitOf .s .speed .axle with value := 350, reason := 12, order := 2, hold := some ⟨2000, 2000000⟩ },
    posted_tableInv, taken (by decide +kernel), rfl, rfl, rfl, fun _ => rfl, by decide +kernel, rfl⟩

/-- The Supervisor at 8, with (SPEED, AXLE) not among them: no run reaches this table, since a master has 8
keys that a request can give. -/
def atQuota : State := withPool (eightOf .s) ⟨0, 0, 8⟩ ready
/-- The other two at 8 and the Supervisor at 4: a full pool. -/
def poolFull : State :=
  withPool (eightOf .i ++ eightOf .c ++ (eightOf .s).take 4) ⟨8, 8, 4⟩ ready
/-- A key is absent from a table that passes the check for it. -/
theorem absent_of_all {u : LimitUnit} (size : u.slots.length = 32) {k : Key}
    (h : (List.range 32).all (fun i => (slotAt u i).all fun c => decide (keyOf c ≠ k)) = true) :
    ∀ i c, slotAt u i = some c → keyOf c ≠ k := by
  intro i c hc
  simp only [List.all_eq_true, List.mem_range] at h
  have := h i (slot_lt_of_some size hc)
  rw [hc] at this
  simpa using this
theorem witness_PostLimitCreatesAnAbsentKey :
    (∀ s, s ∈ [ready, atQuota, poolFull] → TableInv s ∧ Taken .postLimit .s speedPost s ∧
      ∀ i c, slotAt s.limits i = some c → keyOf c ≠ (portSource .s, .speed, .axle)) ∧
    kindOf? (0x03 : Byte).toNat = some .speed ∧ scopeOf? (0x02 : Byte).toNat = some .axle ∧
    8 ≤ atQuota.limits.counts.get .s ∧ (¬ 8 ≤ poolFull.limits.counts.get .s ∧ 20 ≤ poolFull.limits.poolCount) ∧
    (¬ 8 ≤ ready.limits.counts.get .s ∧ ¬ 20 ≤ ready.limits.poolCount) := by
  refine ⟨?_, rfl, rfl, by decide +kernel, by decide +kernel, by decide +kernel⟩
  intro s hs
  simp only [List.mem_cons, List.not_mem_nil, or_false] at hs
  rcases hs with rfl | rfl | rfl <;>
    exact ⟨tableInv_of_ok (by decide +kernel), taken (by decide +kernel),
      absent_of_all (by decide +kernel) (by decide +kernel)⟩
theorem witness_LimitRequestsRefuseBadArguments :
    Taken .postLimit .c (frame [0x00, 0x00, 0x00, 0x00, 0x00, 0x00]) ready ∧
    Taken .postLimit .c (frame [0x04, 0x00, 0x00, 0x00, 0x00, 0x00, 0x00]) ready ∧
    Taken .postLimit .c (frame [0x00, 0x03, 0x00, 0x00, 0x00, 0x00, 0x00]) ready ∧
    Taken .postLimit .c (frame [0x02, 0x01, 0x00, 0x00, 0x00, 0x00, 0x00]) ready ∧
    Taken .withdrawLimit .c (frame [0x00]) ready ∧ Taken .withdrawLimit .c (frame [0x04, 0x02]) ready ∧
    Taken .withdrawLimit .c (frame [0x03, 0x01]) ready ∧
    (0x03 : Byte) < 0x04 ∧ (0x02 : Byte) < 0x03 ∧ (0x01 : Byte) < 0x02 := by
  refine ⟨taken ?_, taken ?_, taken ?_, taken ?_, taken ?_, taken ?_, taken ?_, ?_⟩ <;> decide +kernel
theorem witness_WithdrawLimitRemovesTheKey :
    (TableInv ready ∧ Taken .withdrawLimit .s (frame [0x03, 0x02]) ready ∧
      ∀ i c, slotAt ready.limits i = some c → keyOf c ≠ (portSource .s, .speed, .axle)) ∧
    ∃ c h, TableInv posted ∧ Taken .withdrawLimit .s (frame [0x03, 0x02]) posted ∧
      slotAt posted.limits 12 = some c ∧ keyOf c = (portSource .s, .speed, .axle) ∧ c.hold = some h :=
  ⟨⟨tableInv_of_ok (by decide +kernel), taken (by decide +kernel),
      absent_of_all (by decide +kernel) (by decide +kernel)⟩,
    { limitOf .s .speed .axle with value := 350, reason := 12, order := 2, hold := some ⟨2000, 2000000⟩ },
    ⟨2000, 2000000⟩, posted_tableInv, taken (by decide +kernel), by decide +kernel, rfl, rfl⟩
theorem witness_LimitHoldExpiryRemovesTheEntry :
    ∃ c h, posted.resetting = none ∧ TableInv posted ∧ slotAt posted.limits 12 = some c ∧ c.hold = some h ∧
      sourcePort c.source = some .s ∧ (posted.ports.recs.get .s).mask.getLsbD 1 = true ∧
      unfitted posted .s = false ∧ (posted.ports.recs.get .s).queue.length < 16 :=
  ⟨{ limitOf .s .speed .axle with value := 350, reason := 12, order := 2, hold := some ⟨2000, 2000000⟩ },
    ⟨2000, 2000000⟩, by decide +kernel, posted_tableInv, by decide +kernel, rfl, rfl, by decide +kernel⟩

/-! ### Witnesses: the Authority Unit -/

/-- Every record a clause of the authority statements speaks of, with the truck at rest and moving. -/
def authorityCases : List (AuthRecord × Bool) :=
  [(.reset, true), (.reset, false), (heldBy .cab, true), (heldBy .cab, false), (bid, false),
   (heldBy .supervisor, true), (heldBy .supervisor, false), (handover, false)]
/-- READY with such a record and the Supervisor's demand in a freshness. -/
def authorityAt (x : AuthRecord × Bool) (sup : Demand) : State :=
  withDemands .reset sup (withSpeed 0 x.2 (withRecord x.1 ready))
theorem authorityCases_taken : ∀ x, x ∈ authorityCases → ∀ sup, sup ∈ [Demand.reset, freshDemand 0 0 none] →
    let s := authorityAt x sup
    (s.resetting = none ∧ unfitted s .c = false ∧ unfitted s .s = false) ∧ s.governor.mode ≠ .config ∧
    s.authority.record = x.1 ∧ s.capture.stationary = x.2 ∧ s.authority.demands.supervisor = sup := by
  decide +kernel
theorem witness_ClaimOfTheCab :
    (Taken .claim .c (frame []) State.reset ∧ State.reset.governor.mode = .config) ∧
    ∀ x, x ∈ authorityCases → ∀ sup, sup ∈ [Demand.reset, freshDemand 0 0 none] →
      Taken .claim .c (frame []) (authorityAt x sup) ∧ (authorityAt x sup).governor.mode ≠ .config ∧
      (authorityAt x sup).authority.record = x.1 :=
  ⟨⟨taken (by decide +kernel), rfl⟩, fun x hx sup hs =>
    have h := authorityCases_taken x hx sup hs
    ⟨taken ⟨h.1.1, rfl, h.1.2.1, rfl⟩, h.2.1, h.2.2.1⟩⟩
theorem witness_ClaimOfTheSupervisor :
    (Taken .claim .s (frame []) State.reset ∧ State.reset.governor.mode = .config) ∧
    ∀ x, x ∈ authorityCases → ∀ sup, sup ∈ [Demand.reset, freshDemand 0 0 none] →
      Taken .claim .s (frame []) (authorityAt x sup) ∧ (authorityAt x sup).governor.mode ≠ .config ∧
      (authorityAt x sup).authority.record = x.1 ∧ (authorityAt x sup).capture.stationary = x.2 :=
  ⟨⟨taken (by decide +kernel), rfl⟩, fun x hx sup hs =>
    have h := authorityCases_taken x hx sup hs
    ⟨taken ⟨h.1.1, rfl, h.1.2.2, rfl⟩, h.2.1, h.2.2.1, h.2.2.2.1⟩⟩
theorem witness_ReleaseYieldAndWithdrawBid :
    ∀ x, x ∈ authorityCases → ∀ sup, sup ∈ [Demand.reset, freshDemand 0 0 none] →
      let s := authorityAt x sup
      Taken .release .c (frame []) s ∧ Taken .release .s (frame []) s ∧
      Taken .yieldAuthority .s (frame []) s ∧ Taken .withdrawBid .s (frame []) s ∧
      (∀ q, q = .release ∨ q = .yieldAuthority ∨ q = .withdrawBid ∨ q = .claim → Taken q .s (frame [0x00]) s) ∧
      s.authority.record = x.1 ∧ s.capture.stationary = x.2 ∧ s.authority.demands.supervisor = sup :=
  fun x hx sup hs =>
    have h := authorityCases_taken x hx sup hs
    ⟨taken ⟨h.1.1, rfl, h.1.2.1, rfl⟩, taken ⟨h.1.1, rfl, h.1.2.2, rfl⟩, taken ⟨h.1.1, rfl, h.1.2.2, rfl⟩,
      taken ⟨h.1.1, rfl, h.1.2.2, rfl⟩,
      fun q hq => taken ⟨h.1.1, rfl, h.1.2.2, by rcases hq with rfl | rfl | rfl | rfl <;> rfl⟩, h.2.2⟩
theorem witness_SubmitDemandStoresTheDemand :
    (Taken .submitDemand .c (frame []) State.reset ∧ portParty .c = some .cab ∧
      State.reset.governor.mode = .config) ∧
    (∀ f, f ∈ [frame [], frame [0x03, 0, 0, 0, 0, 0, 0], frame [0x02, 0x03, 0xE8, 0x03, 0xE9, 0xFF, 0xFF]] →
      Taken .submitDemand .s f active ∧ portParty .s = some .supervisor ∧ active.governor.mode ≠ .config) ∧
    directionOf? (0x02 : Byte).toNat = some .reverse ∧
    (active.authority.demands.get .supervisor).freshness = .stale ∧
    active.authority.record.holder ≠ some .supervisor := by
  refine ⟨⟨taken (by decide +kernel), rfl, rfl⟩, ?_, rfl, by decide +kernel, by decide +kernel⟩
  intro f hf
  simp only [List.mem_cons, List.not_mem_nil, or_false] at hf
  rcases hf with rfl | rfl | rfl <;> exact ⟨taken (by decide +kernel), rfl, by decide +kernel⟩
theorem witness_AuthorityTimersExpire :
    (let s := withRecord handover active
     s.resetting = none ∧ s.authority.record.state = .handover ∧
      s.authority.record.deadline.isSome = true) ∧
    (descent.resetting = none ∧ (descent.authority.demands.get .supervisor).lifetime.isSome = true ∧
      descent.authority.record.holder = some .supervisor ∧ descent.capture.stationary = false) ∧
    (let s := withDemands (freshDemand 0 200 none) .reset descent
     (s.authority.demands.get .cab).lifetime.isSome = true ∧ s.authority.record.holder ≠ some .cab) ∧
    (∀ k, k ∈ [2, 3] → (descent.ports.recs.get .i).mask.getLsbD k = true) ∧ unfitted descent .i = false ∧
    (descent.ports.recs.get .i).queue.length < 16 := by decide +kernel
theorem witness_HandoverDemandIsABlend :
    (withRecord handover active).authority.record.state = .handover ∧
    (freshDemand 1 0 (some 0)).direction = (freshDemand 2 0 none).direction ∧
    (freshDemand 1 0 (some 0)).direction ≠ { freshDemand 2 0 none with direction := .reverse }.direction ∧
    descent.steering.cab.parkBrake = .released ∧ active.steering.cab.parkBrake = .applied ∧
    ready.authority.record.state = .vacant ∧
    (descent.authority.record.state = .held ∧ descent.authority.record.holder = some .supervisor ∧
      (descent.authority.demands.get .supervisor).freshness = .fresh) ∧
    (active.authority.record.state = .held ∧ active.authority.record.holder = some .cab ∧
      (active.authority.demands.get .cab).freshness = .stale) := by decide +kernel

/-! ### Witnesses: the Effort Resolver -/

theorem reset_gridInv : GridInv (State.reset.withResolver { Resolver.reset with timer := some 0 }) := by
  constructor <;> first | (constructor <;> decide +kernel) | decide +kernel
theorem ready_gridInv : GridInv ready := by
  constructor <;> first | (constructor <;> decide +kernel) | decide +kernel
theorem descent_gridInv : GridInv descent := by
  constructor <;> first | (constructor <;> decide +kernel) | decide +kernel
theorem inhibited_gridInv : GridInv (latch .linkOvervoltage ready) := by
  constructor <;> first | (constructor <;> decide +kernel) | decide +kernel
theorem witness_ResolutionExpiryPublishesAPass :
    (let s := State.reset.withResolver { Resolver.reset with timer := some 0 }
     s.resetting = none ∧ s.resolver.timer.isSome = true ∧ s.governor.mode = .config ∧ GridInv s) ∧
    (let s := latch .linkOvervoltage ready
     s.resetting = none ∧ s.resolver.timer.isSome = true ∧ s.governor.mode = .inhibit ∧ GridInv s) ∧
    (ready.resetting = none ∧ ready.resolver.timer.isSome = true ∧ ready.governor.mode = .ready ∧
      GridInv ready) ∧
    (descent.resetting = none ∧ descent.resolver.timer.isSome = true ∧ descent.governor.mode = .active ∧
      GridInv descent) ∧
    (let s := updSlip .left (fun r => { r with state := .slipping, modeAt := some .propel, cap := some 9000 }) descent
     (s.steering.slips.get .left).state ≠ .normal ∧ (passRecord s).mode = .retard ∧
      (s.steering.slips.get .left).modeAt ≠ driveMode? (passRecord s).mode) := by
  refine ⟨⟨by decide +kernel, by decide +kernel, by decide +kernel, reset_gridInv⟩,
    ⟨by decide +kernel, by decide +kernel, by decide +kernel, inhibited_gridInv⟩,
    ⟨by decide +kernel, by decide +kernel, by decide +kernel, ready_gridInv⟩,
    ⟨by decide +kernel, by decide +kernel, by decide +kernel, descent_gridInv⟩, by decide +kernel⟩
theorem witness_PassSettlesDirectionAndMode :
    let asked := fun s : State => effectiveDemand (some s.resolver.axle) s
    let off := updCtx (fun c => { c with bHold := 0 })
      (withDemands .reset (freshDemand 1 0 none) descent)
    (descent.governor.mode = .active ∧ (asked descent).direction = descent.resolver.axle ∧
      0 < max (asked descent).retard descent.hold.ctx.bHold) ∧
    (let s := withDemands .reset { freshDemand 0 0 none with direction := .reverse } descent
     (asked s).direction ≠ s.resolver.axle ∧ s.capture.stationary = false ∧
      (withSpeed 4 true s).capture.stationary = true) ∧
    (max (asked off).retard off.hold.ctx.bHold = 0 ∧ (passRecord off).directionHeld = false ∧
      0 < (asked off).propel ∧ (passRecord off).axle ≠ .neutral) ∧
    (let s := withDemands .reset (freshDemand 0 0 none) off
     max (asked s).retard s.hold.ctx.bHold = 0 ∧ (asked s).propel = 0) := by decide +kernel
theorem witness_CapabilityIsReadFromTheTable :
    (inverterReady descent .left = true ∧ bothFault descent = false ∧ inverterReady ready .left = false) ∧
    (retardTable descent).Pairwise (fun x y => x.1 < y.1) ∧ (retardTable descent)[0]? = some (200, 16000) ∧
    (retardTable descent)[1]? = some (1000, 16000) ∧ (retardTable descent)[2]? = some (1500, 12000) ∧
    (retardTable descent)[4]? = some (3500, 5100) ∧ (retardTable descent).length = 5 ∧
    (1000 < 1001 ∧ 1499 < 1500) ∧
    (let s := updWheel .left (fun c => { c with state := .fault }) descent
     (s.capture.wheels.get .left).state = .fault ∧ (s.capture.wheels.get (otherWheel .left)).state ≠ .fault ∧
      bothFault (updWheel .right (fun c => { c with state := .fault }) s) = true) := by decide +kernel
theorem witness_RetardRecordKeepsThePowerLaw :
    (ShareInv descent ∧ descent.limits.envelope.retardPower = some ⟨4000, .grid, 1⟩ ∧
      (passRecord descent).mode = .retard) ∧
    (TableInv ready ∧ GridInv ready ∧ ready.profile.committed = true) ∧
    (let s := descent.withPending [.resolutionTimerExpiry]
     ∃ t, ModeInv s ∧ ShareInv s ∧ TableInv s ∧ GridInv s ∧ step s = .next t ∧
      t.resolver.last ≠ s.resolver.last ∧ t.resolver.last.mode = .retard) := by
  refine ⟨⟨by unfold ShareInv; decide +kernel, by decide +kernel, by decide +kernel⟩,
    ⟨tableInv_of_ok (by decide +kernel), ready_gridInv, by decide +kernel⟩, _, ?_, ?_,
    tableInv_of_ok (by decide +kernel), ?_, rfl, by decide +kernel, by decide +kernel⟩
  · constructor <;> decide +kernel
  · unfold ShareInv; decide +kernel
  · constructor <;> first | (constructor <;> decide +kernel) | decide +kernel

/-- The descent with an effort. -/
def withEffort (n : Nat) (s : State) : State := updCtx (fun c => { c with bHold := n }) s
/-- A contribution of the Cab in slot 12. -/
def withLimit (k : Kind) (sc : Scope) (value : Nat) (s : State) : State :=
  withTable { s.limits with slots := s.limits.slots.set 12 (some { limitOf .c k sc with value := value }) } s

/-- The left wheel bound by nothing in READY; by REQUEST; by SLEW; by CAPABILITY; by LIMIT; by POWER_SHARE; in
PROPEL by TAPER; a rise, a fall and a new mode. -/
theorem witness_TorqueFollowsTargetSlewAndBinding :
    let x := fun s : State => (passRecord s).wheels.left
    let settled := fun n : Nat => let s := withEffort n descent
      s.withResolver { s.resolver with last := { s.resolver.last with wheels :=
        ⟨{ s.resolver.last.wheels.left with torque := 20000 }, s.resolver.last.wheels.right⟩ } }
    let propelling := updCtx (fun c => { c with bHold := 0 }) (withLimit .speed .axle 270
      (withDemands .reset (freshDemand 1000 0 none) descent))
    ((passRecord ready).mode = .neutral ∧ (passRecord ready).mode = ready.resolver.last.mode) ∧
    ((x descent).binding = .request ∧ (passRecord descent).mode = descent.resolver.last.mode) ∧
    (x (withEffort 1000 descent)).binding = .slew ∧
    ((passRecord (settled 1000)).mode = .retard ∧ (x (settled 1000)).torque = 14400) ∧
    (x (withLimit .retardTorque .left 5000 descent)).binding = .limit ∧
    (x (internalPost 1 1000 descent)).binding = .powerShare ∧
    ((passRecord propelling).mode = .propel ∧ propelling.resolver.last.mode = .retard ∧
      (x propelling).cap ≠ (x propelling).capability) := by decide +kernel

/-! ### Witnesses: the Grade Hold Unit -/

theorem witness_HoldExpiryIsAHoldUpdate :
    (ready.resetting = none ∧ ready.hold.ctx.timer.isSome = true ∧ ready.hold.ctx.modeSeen ≠ .active) ∧
    (descent.resetting = none ∧ descent.hold.ctx.timer.isSome = true ∧
      descent.hold.ctx.modeSeen = .active ∧ (effectiveDemand none descent).setpoint = some 242) ∧
    (let s := withDemands .reset (freshDemand 0 0 none) descent
     (effectiveDemand none s).setpoint = none ∧ s.limits.envelope.speed = none ∧
      s.hold.ctx.staleSource = none) ∧
    (let s := withSpeed 258 false (updCtx (fun c =>
      { c with lastGrant := ⟨.retard, .powerShare, .request, 1⟩ }) descent)
     242 + margin s < s.capture.v ∧ s.hold.ctx.lastGrant.mode = .retard ∧
      capsEffort s.hold.ctx.lastGrant.bindL = true) ∧
    ¬ 242 + margin descent < descent.capture.v ∧
    (let s := withSpeed 351 false (withLimit .speed .axle 350 descent)
     (s.limits.envelope.speed.map (·.value)) = some 350 ∧ s.hold.ctx.capSource = none ∧ 350 < s.capture.v) := by
  decide +kernel
theorem witness_BrakeTimersAssertTheLine :
    let s := updBrake (fun b => { b with overspeedTimer := some 0, noRetardTimer := some 0 }) descent
    s.resetting = none ∧ s.hold.brake.overspeedTimer.isSome = true ∧
      s.hold.brake.noRetardTimer.isSome = true ∧ s.hold.brake.asserted = false ∧
      (s.ports.recs.get .i).mask.getLsbD 9 = true ∧ unfitted s .i = false ∧
      (s.ports.recs.get .i).queue.length < 16 ∧
      (passRecord descent).mode = .retard ∧ descent.hold.ctx.modeSeen = .active ∧
      (holdGridEvent 0 descent).hold.brake.noRetardTimer = some 200000 ∧
      (let e := noRetardExpiry (holdGridEvent 0 descent)
       e.hold.brake.asserted = true ∧ (holdGridEvent 1 e).hold.brake.asserted = false) := by decide +kernel

/-! ### Witnesses: the Grid Drive Unit -/

/-- A bank in each condition of its contactor, in a governor in the mode given. -/
def bankIn (k : Bank) (m : GovMode) : State :=
  setBank .one k (updGrid (fun g => { g with modeSeen := m }) closed)
def openBank (feedback : Bool) : Bank :=
  { Bank.reset with feedback := feedback, handshake := if feedback then some 0 else none }
def closingBank : Bank := { Bank.reset with contactor := .closing, command := true, handshake := some 0 }
def openingBank : Bank := { Bank.reset with contactor := .opening, feedback := true, handshake := some 0 }
def failedSample : Bank := { Bank.reset with contactor := .failed, failure := some .dropped }
/-- A CLOSED bank with its boundary due. -/
def dueBank (enable pendingOpen feedback : Bool) : Bank :=
  { closedBankSample with enableRequested := enable, enableActive := true, openPending := pendingOpen,
                          feedback := feedback, dutyPending := 159, boundary := some 0 }

/-- The banks and the modes that the clauses of the next three statements speak of. -/
def bankCases : List (Bank × GovMode) :=
  [(openBank true, .active), (openBank true, .ready), (closingBank, .active), (openingBank, .active),
   (openingBank, .ready), (failedSample, .active), (closedBankSample, .active), (dueBank true false true, .active),
   (dueBank false true true, .active), (dueBank false true false, .active)]
theorem bankIn_inv : ∀ x, x ∈ bankCases →
    let s := bankIn x.1 x.2
    s.resetting = none ∧ GridInv s ∧ TableInv s ∧ s.grid.committed = true := by
  intro x hx
  simp only [bankCases, List.mem_cons, List.not_mem_nil, or_false] at hx
  rcases hx with rfl | rfl | rfl | rfl | rfl | rfl | rfl | rfl | rfl | rfl <;>
    refine ⟨by decide +kernel, ?_, tableInv_of_ok (by decide +kernel), by decide +kernel⟩ <;>
    constructor <;> first | (constructor <;> decide +kernel) | decide +kernel
theorem witness_FeedbackEdgesMoveTheBank :
    (∀ x, x ∈ bankCases → (bankIn x.1 x.2).resetting = none ∧ GridInv (bankIn x.1 x.2) ∧
      TableInv (bankIn x.1 x.2) ∧ (bankIn x.1 x.2).grid.committed = true) ∧
    (bankOf (bankIn closingBank .active) .one).contactor = .closing ∧
    (bankOf (bankIn openingBank .ready) .one).contactor = .opening ∧
    (bankIn (openBank true) .active).grid.modeSeen = .active ∧
    (State.reset.resetting = none ∧ State.reset.grid.committed = false) :=
  ⟨bankIn_inv, by decide +kernel, by decide +kernel, by decide +kernel, by decide +kernel⟩
theorem witness_HandshakeExpiryFailsTheBank :
    (∀ x, x ∈ bankCases → (bankIn x.1 x.2).resetting = none ∧ GridInv (bankIn x.1 x.2) ∧
      TableInv (bankIn x.1 x.2) ∧ (bankIn x.1 x.2).grid.committed = true) ∧
    ∀ k, k ∈ [openBank true, closingBank, openingBank] →
      (bankOf (bankIn k .active) .one).handshake.isSome = true ∧
      (bankOf (bankIn k .active) .one).contactor = k.contactor ∧
      (bankOf (bankIn k .active) .one).feedback = k.feedback :=
  ⟨bankIn_inv, by decide +kernel⟩
theorem witness_PeriodBoundaryTakesDutyAndEnable :
    (∀ x, x ∈ bankCases → (bankIn x.1 x.2).resetting = none ∧ GridInv (bankIn x.1 x.2) ∧
      TableInv (bankIn x.1 x.2) ∧ (bankIn x.1 x.2).grid.committed = true) ∧
    (∀ k, k ∈ [dueBank true false true, dueBank false true true, dueBank false true false] →
      (bankOf (bankIn k .active) .one).boundary.isSome = true ∧ (bankOf (bankIn k .active) .one).dump = false ∧
      (bankOf (bankIn k .active) .one).openPending = k.openPending ∧
      (bankOf (bankIn k .active) .one).enableRequested = k.enableRequested) ∧
    (bankOf (updBank .one (fun k => { k with onTime := some 0 }) closed) .one).onTime.isSome = true :=
  ⟨bankIn_inv, by decide +kernel, by decide +kernel⟩
theorem witness_PublicationWritesThePendingDuty :
    (0 < (bankOf descent .one).avail ∧ 0 < (bankOf descent .two).avail ∧ 100 ≤ descent.capture.link.v) ∧
    (let s := bankIn (openBank false) .active
     (bankOf s .one).avail = 0 ∧ 0 < (bankOf s .two).avail ∧ s.capture.link.v < 100) ∧
    (let s := setBank .two (openBank false) closed
     0 < (bankOf s .one).avail ∧ (bankOf s .two).avail = 0) ∧ Grant.zero.mode ≠ .retard ∧ GridInv descent :=
  ⟨by decide +kernel, by decide +kernel, by decide +kernel, by decide +kernel, descent_gridInv⟩

/-! ### Witnesses: the Steering Monitor -/

theorem closed_tableInv : TableInv closed := tableInv_of_ok (by decide +kernel)
theorem angled_tableInv (a : Int) (s : State) (h : TableInv s) : TableInv (withAngle a s) :=
  ⟨h.size, h.fits, h.keys, h.counts, h.quota, h.pool, h.envelope⟩
theorem witness_SteeringRunFormsRatioSharesAndSteer :
    (∀ a : Int, a ∈ [0, 1, -1, 30, 31, -449, 450] → TableInv (withAngle a closed) ∧
      (withAngle a closed).resetting = none ∧ (withAngle a closed).steering.committed = true ∧
      (withAngle a closed).steering.timer.isSome = true ∧ (withAngle a closed).capture.angle.angle = a ∧
      (withAngle a closed).capture.angle.state = .ok) ∧
    closed.capture.angle.state = .fault := by
  have h : ∀ a : Int, a ∈ [0, 1, -1, 30, 31, -449, 450] →
      (withAngle a closed).resetting = none ∧ (withAngle a closed).steering.committed = true ∧
      (withAngle a closed).steering.timer.isSome = true ∧ (withAngle a closed).capture.angle.angle = a ∧
      (withAngle a closed).capture.angle.state = .ok := by decide +kernel
  exact ⟨fun a ha => ⟨angled_tableInv a _ closed_tableInv, h a ha⟩, by decide +kernel⟩

/-- A wheel's slip record in the left-hand switchback. -/
def slide (rpm : Nat) (r : SlipRecord) : State :=
  let s := turning rpm 600 closed
  s.withSteering { s.steering with
    angleUsed := -200, angleStateUsed := .ok, ratio := 854, inner := .left, slips := ⟨r, .reset⟩
    lastGrant := ⟨.retard, ⟨6005, 7050⟩, ⟨16000, 16000⟩, 1⟩ }
/-- A record that has a cap. -/
def capped (st : SlipState) (cap : Nat) : SlipRecord :=
  { SlipRecord.reset with state := st, modeAt := some .retard, cap := some cap }

/-- The slip records and the speeds that the clauses speak of. The left wheel's expected speed is 512: at 461
its deviation is −100, at 462 −98, at 492 −40 and at 493 −38. -/
def slideCases : List (Nat × SlipRecord) :=
  [(461, .reset), (462, .reset), (461, { SlipRecord.reset with state := .suspect, modeAt := some .retard }),
   (462, { SlipRecord.reset with state := .suspect, modeAt := some .retard }), (461, capped .slipping 4503),
   (492, capped .slipping 4503), (493, capped .slipping 4503), (461, capped .recovering 15599),
   (462, capped .recovering 15599), (462, capped .recovering 15600)]
theorem witness_SlipRecordMovesByTheDeviation :
    (∀ x, x ∈ slideCases → TableInv (slide x.1 x.2) ∧ (slide x.1 x.2).steering.slips.get .left = x.2 ∧
      driveMode? (slide x.1 x.2).steering.lastGrant.mode = some .retard ∧
      slipSuspended (slide x.1 x.2) = false ∧
      slipSuspended (withSpeed 19 false (slide x.1 x.2)) = true) ∧
    (((461 : Int) - 512) * 1000 / 512 = -100 ∧ ((462 : Int) - 512) * 1000 / 512 = -98 ∧
      ((492 : Int) - 512) * 1000 / 512 = -40 ∧ ((493 : Int) - 512) * 1000 / 512 = -38) ∧
    (slideOn closed = 100 ∧ slideOff closed = 40 ∧ 15599 + restoreStep closed < 16000 ∧
      16000 ≤ 15600 + restoreStep closed) := by
  have h : ∀ x, x ∈ slideCases → tableOk (slide x.1 x.2).limits = true ∧
      (slide x.1 x.2).steering.slips.get .left = x.2 ∧
      driveMode? (slide x.1 x.2).steering.lastGrant.mode = some .retard ∧
      slipSuspended (slide x.1 x.2) = false ∧
      slipSuspended (withSpeed 19 false (slide x.1 x.2)) = true := by decide +kernel
  exact ⟨fun x hx => ⟨tableInv_of_ok (h x hx).1, (h x hx).2⟩, by decide, by decide +kernel⟩
theorem witness_CabReportIsStoredAndExpires :
    (∀ f, f ∈ [frame [], frame [0x0A, 0x28, 0x03, 0x00], frame [0x0A, 0x28, 0x00, 0x02],
        frame [0x17, 0x71, 0x02, 0x01]] →
      Taken .reportCab .c f closed ∧ TableInv closed) ∧
    (supplyOf? (0x02 : Byte).toNat = some .lowPressure ∧ parkBrakeOf? (0x01 : Byte).toNat = some .applied) ∧
    (closed.capture.stationary = false ∧ (withSpeed 4 true closed).capture.stationary = true ∧
      closed.steering.committed = true ∧ loaded.steering.committed = false) ∧
    (descent.resetting = none ∧ TableInv descent ∧ descent.steering.cab.lifetime.isSome = true ∧
      (descent.ports.recs.get .i).mask.getLsbD 4 = true ∧ unfitted descent .i = false ∧
      (descent.ports.recs.get .i).queue.length < 16) := by
  refine ⟨fun f hf => ⟨taken ⟨by decide +kernel, ?_, by decide +kernel, rfl⟩, closed_tableInv⟩, ⟨rfl, rfl⟩,
    by decide +kernel, by decide +kernel, tableInv_of_ok (by decide +kernel), by decide +kernel⟩
  simp only [List.mem_cons, List.not_mem_nil, or_false] at hf
  rcases hf with rfl | rfl | rfl | rfl <;> rfl

/-! ### Witnesses: the Overload Monitor -/

theorem witness_DriveReportIsStoredAndExpires :
    (∀ f, f ∈ [frame [], frame [0x02, 0x00, 0, 0, 0, 0], frame [0x00, 0x02, 0, 0, 0, 0],
        frame [0x01, 0x01, 0x27, 0x10, 0x27, 0x11]] → Taken .reportDrive .i f ready) ∧
    (descent.resetting = none ∧ descent.overload.report.lifetime.isSome = true) := by
  refine ⟨fun f hf => taken ⟨by decide +kernel, ?_, by decide +kernel, rfl⟩, by decide +kernel⟩
  simp only [List.mem_cons, List.not_mem_nil, or_false] at hf
  rcases hf with rfl | rfl | rfl | rfl <;> rfl

/-- An element at a heat and a level. -/
def heated (heat : Nat) (l : Level) : State :=
  updIntegrator .ml (fun i => { i with heat := heat, level := l, dwell := some 0 }) (readyDrives 1300 ready)

/-- τ is 600: an update at rated load adds 1000 and takes θ away. At 539,900 the level rises to WARM, at
630,060 to DERATE, at 750,400 to TRIP; a DERATE at 540,000 is below its fall threshold and keeps its timer. -/
theorem witness_OverloadExpiryHeatsAndRaises :
    (ready.resetting = none ∧ ready.overload.timer.isSome = true ∧ TableInv ready) ∧
    (let l := fun heat lvl => (after .overloadTimerExpiry (heated heat lvl)).overload.integrators.ml
     (l 539900 .normal).level = .warm ∧ (l 630060 .warm).level = .derate ∧ (l 750400 .derate).level = .trip ∧
      (l 750400 .trip).level = .trip ∧ (l 540000 .derate).dwell = some 0 ∧ (l 630000 .derate).dwell = none) ∧
    (let s := updIntegrator .g1 (fun i => { i with heat := 1999 * 600, theta := 1999 }) closed
     (after .overloadTimerExpiry s).overload.integrators.g1.level ≠ s.overload.integrators.g1.level) :=
  ⟨⟨by decide +kernel, by decide +kernel, tableInv_of_ok (by decide +kernel)⟩, by decide +kernel,
    by decide +kernel⟩
theorem witness_DwellExpiryLowersTheLevel :
    (∀ l, l ∈ [Level.warm, Level.derate] → (heated 0 l).resetting = none ∧
      ((heated 0 l).overload.integrators.get .ml).dwell.isSome = true ∧
      ((heated 0 l).overload.integrators.get .ml).level = l) ∧
    (((heated 0 .derate).ports.recs.get .i).mask.getLsbD 5 = true ∧ unfitted (heated 0 .derate) .i = false ∧
      ((heated 0 .derate).ports.recs.get .i).queue.length < 16) ∧
    ((bankOf active .one).contactor = .closing ∧ (bankOf closed .one).contactor = .closed ∧
      (bankOf active .one).levelSeen ≠ .trip ∧ (bankOf closed .one).levelSeen ≠ .trip) ∧
    (let s := updBank .one (fun k => { k with levelSeen := .trip }) (bankIn (openBank false) .active)
     s.grid.committed = true ∧ s.grid.modeSeen = .active ∧ (bankOf s .one).contactor = .open ∧
      (bankOf s .one).feedback = false ∧ (bankOf s .one).levelSeen = .trip) := by decide +kernel
theorem witness_LinkProtectionCountsItsGates :
    (vDump closed ≤ 2300 ∧ ¬ vDump closed ≤ 2299 ∧ vTrip closed ≤ 2500 ∧ 2499 < vTrip closed ∧
      (2249 : Int) < (vDump closed : Int) - 50 ∧ ¬ (2250 : Int) < (vDump closed : Int) - 50) ∧
    (closed.overload.link.dump = false ∧ (gateEvent (.good 2300) closed).overload.link.dump = true) ∧
    GridInv closed ∧ (bankOf closed .one).contactor = .closed :=
  ⟨by decide +kernel, by decide +kernel, closed_gridInv, by decide +kernel⟩

/-! ### Witnesses: Governor Control -/

theorem witness_LatchJoinsTheTripSet :
    (.motorLThermal ∈ tripped.governor.trips ∧ .speedSenseLost ∉ tripped.governor.trips ∧
      tripped.governor.trips ≠ []) ∧
    (closed.governor.trips = [] ∧ .linkOvervoltage ∉ closed.governor.trips) ∧
    (TripCause.grid1Contactor.tripClass ≠ .drive ∧ TripCause.linkSenseLost.tripClass = .drive) ∧
    ((closed.ports.recs.get .i).mask.getLsbD 10 = true ∧ unfitted closed .i = false ∧
      (closed.ports.recs.get .i).queue.length < 16) ∧
    (TripCause.speedSenseLost.tripClass = .propel ∧ (∀ x, x ∈ closed.governor.trips → x.tripClass ≠ .propel) ∧
      slotAt closed.limits 0 = none ∧ TableInv closed ∧ closed.governor.mode = .active) :=
  ⟨by decide +kernel, by decide +kernel, by decide +kernel, by decide +kernel, by decide +kernel,
    by decide +kernel, by decide +kernel, closed_tableInv, by decide +kernel⟩
theorem witness_ClearTripsClearsWhatMayClear :
    (∀ f, f ∈ [frame [], frame [0x00]] → Taken .clearTrips .c f tripped ∧ Taken .clearTrips .i f closed) ∧
    tripped.governor.trips ≠ [] ∧ closed.governor.trips = [] ∧
    (let s := withSpeed 0 true tripped
     clearHolds s .linkOvervoltage = true ∧ clearHolds s .motorLThermal = false ∧
      clearHolds (updIntegrator .ml (fun i => { i with theta := 849 }) s) .motorLThermal = true) ∧
    (let s := after (.feedbackFalls .one) descent
     clearHolds s .grid1Contactor = true ∧ (bankOf s .one).contactor = .failed) := by
  refine ⟨fun f hf => ?_, by decide +kernel, by decide +kernel, by decide +kernel, by decide +kernel⟩
  have he : f.early = false := by
    simp only [List.mem_cons, List.not_mem_nil, or_false] at hf
    rcases hf with rfl | rfl <;> rfl
  exact ⟨taken ⟨by decide +kernel, he, by decide +kernel, rfl⟩,
    taken ⟨by decide +kernel, he, by decide +kernel, rfl⟩⟩

/-! ### Witnesses: the Profile Store -/

theorem witness_ProfileWriteStoresOneEntry :
    (Taken .profileWrite .i (frame []) ready ∧ ready.profile.committed = true) ∧
    (∀ f, f ∈ [frame [], frame [0x0D, 0, 0, 0, 0, 0], frame [0x00, 0x05, 0, 0, 0, 0],
        frame [0x00, 0x04, 0, 0, 0, 0x14], frame [0x01, 0x00, 0, 0, 0, 0x11],
        frame [0x02, 0x10, 0x0F, 0xA1, 0x7D, 0x00]] →
      Taken .profileWrite .i f State.reset) ∧ State.reset.profile.committed = false ∧
    State.reset.profile.sections.map List.length = profileSpec.map List.length ∧
    (entrySpec? 0x00 0x04 = some (.scalar 20 300) ∧ entrySpec? 0x01 0x00 = some .count ∧
      entrySpec? 0x02 0x10 = some .point) := by
  refine ⟨⟨taken (by decide +kernel), by decide +kernel⟩, fun f hf => taken ⟨rfl, ?_, rfl, rfl⟩, rfl,
    by decide +kernel, by decide +kernel⟩
  simp only [List.mem_cons, List.not_mem_nil, or_false] at hf
  rcases hf with rfl | rfl | rfl | rfl | rfl | rfl <;> rfl

theorem loaded_invs :
    ModeInv loaded ∧ BrakeLineInv loaded ∧ HoldInv loaded ∧ GridInv loaded ∧ TableInv loaded := by
  refine ⟨?_, ?_, ?_, ?_, tableInv_of_ok (by decide +kernel)⟩
  · constructor <;> decide +kernel
  · unfold BrakeLineInv; decide +kernel
  · constructor <;> decide +kernel
  · constructor <;> first | (constructor <;> decide +kernel) | decide +kernel
theorem witness_CommitProfileStartsEveryBlock :
    (Taken .commitProfile .i (frame []) ready ∧ ready.profile.committed = true) ∧
    (Taken .commitProfile .i (frame [0x00]) loaded ∧ loaded.profile.committed = false) ∧
    (Taken .commitProfile .i (frame []) State.reset ∧ State.reset.profile.committed = false ∧
      profileFailure State.reset.profile = some (0, 0, .range) ∧ Fails State.reset.profile 0 0 .range) ∧
    (Taken .commitProfile .i (frame []) loaded ∧ profileFailure loaded.profile = none ∧
      ModeInv loaded ∧ BrakeLineInv loaded ∧ HoldInv loaded ∧ GridInv loaded ∧ TableInv loaded) := by
  refine ⟨⟨taken (by decide +kernel), by decide +kernel⟩, ⟨taken (by decide +kernel), rfl⟩,
    ⟨taken (by decide +kernel), rfl, by decide +kernel, ⟨30, 240, rfl, by decide +kernel⟩⟩,
    ⟨taken (by decide +kernel), by decide +kernel, loaded_invs⟩⟩

/-! ### Witnesses: the Master Port Unit -/

/-- READY with port S read as not fitted. -/
def noSupervisor : State := ready.withPorts { ready.ports with strap := .notFitted }
theorem witness_PortAnswersForItself :
    (ready.resetting = none ∧ (frame []).early = false ∧ ({ args := [], early := true } : Frame).early = true) ∧
    (noSupervisor.resetting = none ∧ noSupervisor.ports.strap = .notFitted ∧ ready.ports.strap = .fitted) ∧
    (isKnownCode 0x06 = false ∧ isKnownCode 0xFF = false) ∧
    (isTruncated [] = true ∧ isTruncated [0x10] = true ∧ isTruncated [0x10, 0x01] = true) := by decide +kernel
theorem witness_ReadsChangeNothing :
    (∀ args, Taken .readRecord .s (frame args) ready ∧ Taken .readTable .c (frame args) ready) ∧
    (0x0E : Byte) < 0x0F ∧ (0x01 : Byte) < 0x02 ∧ (0x0C : Byte) < 0x0D ∧ (0x1F : Byte) < 0x20 ∧
    (0x1F : Byte) ≤ 0x1F ∧
    (recordAsked? .s [0x0F] ready = none ∧ recordAsked? .s [0x02, 0x02] ready = none ∧
      (recordAsked? .s [0x02, 0x01] ready).isSome = true ∧ (recordAsked? .s [0x0E] ready).isSome = true) ∧
    ((profileSpec.getD 0x0C []).length = 2 ∧ 2 ≤ (0x02 : Byte).toNat ∧ (0x01 : Byte).toNat < 2) :=
  ⟨fun _ => ⟨taken ⟨by decide +kernel, rfl, by decide +kernel, rfl⟩,
    taken ⟨by decide +kernel, rfl, by decide +kernel, rfl⟩⟩, by decide, by decide, by decide, by decide,
    by decide, by decide +kernel, by decide +kernel⟩
theorem witness_TakeNoticesRemovesTheOldest :
    (∀ args, Taken .takeNotices .c (frame args) ready) ∧
    (ready.ports.recs.get .c).queue.length = 4 ∧ (State.reset.ports.recs.get .c).queue = [] :=
  ⟨fun _ => taken ⟨by decide +kernel, rfl, by decide +kernel, rfl⟩, by decide +kernel, rfl⟩
theorem witness_NoticeSettingsAreReplaced :
    QueueInv ready ∧ (∀ args, Taken .setNoticeMask .c (frame args) ready ∧
      Taken .setNoticeThreshold .c (frame args) ready) ∧
    (0x0F : Byte) < 0x10 ∧ (0x0F : Byte) ≤ 0x0F ∧ (0x10 : Byte) < 0x11 ∧ (0x01 : Byte) ≤ 0x01 ∧
    (0x10 : Byte) ≤ 0x10 := by
  refine ⟨⟨fun p => ?_, fun h => absurd h (by decide +kernel)⟩, fun _ => ⟨taken ⟨by decide +kernel, rfl, by decide +kernel, rfl⟩,
    taken ⟨by decide +kernel, rfl, by decide +kernel, rfl⟩⟩, by decide, by decide, by decide, by decide,
    by decide⟩
  cases p <;> constructor <;> decide +kernel
theorem witness_OfferedNoticeJoinsTheQueue :
    (ready.ports.recs.get .c).mask.getLsbD ((Notice.envelope .speed none).kind - 1) = true ∧
    (∃ b, Notice.envelope .speed b ∈ (ready.ports.recs.get .c).queue) ∧
    (∀ b, Notice.envelope .propelL b ∉ (ready.ports.recs.get .c).queue) ∧
    (ready.ports.recs.get .c).queue.length < 16 ∧
    noSupervisor.ports.strap = .notFitted ∧ sourcePort Source.cab ≠ some .s := by
  have q : (ready.ports.recs.get .c).queue =
      [.mode .ready .config .commit, .envelope .retardPower (some (0, .grid)),
       .envelope .speed (some (80, .steer)), .brake false false false .ready] := by decide +kernel
  rw [q]
  refine ⟨by decide +kernel, ⟨some (80, .steer), by simp⟩, by simp, by decide, by decide +kernel, by decide⟩

end Sys2Proof.Tests
end

/-! ### The envelope: what a field derived from the table holds (R35, R36, R37) -/

namespace Sys2Proof.Proofs

open Sys2Proof.Machine

theorem scope_ne_right_iff (sc : Scope) : sc ≠ .right ↔ sc = .left ∨ sc = .axle := by
  cases sc <;> decide

theorem scope_ne_left_iff (sc : Scope) : sc ≠ .left ↔ sc = .right ∨ sc = .axle := by
  cases sc <;> decide

/-- A field of the derived envelope is that field derived on its own. -/
@[simp] theorem deriveEnvelope_field (slots : List (Option Contribution)) (f : EnvField) :
    (deriveEnvelope slots).field f = deriveField slots f := by
  cases f <;> rfl

/-- A present contribution that takes part in a field, with its slot (R36). -/
def TakesPart (f : EnvField) (slots : List (Option Contribution)) (i : Nat) (c : Contribution) : Prop :=
  slots[i]? = some (some c) ∧ applies f c = true

theorem TakesPart.lt_length {f : EnvField} {slots : List (Option Contribution)} {i : Nat} {c : Contribution}
    (h : TakesPart f slots i c) : i < slots.length :=
  (List.getElem?_eq_some_iff.mp h.1).1

/-- One slot more adds at most the contribution in it. -/
theorem takesPart_concat {f : EnvField} {slots : List (Option Contribution)} {x : Option Contribution}
    {i : Nat} {c : Contribution} :
    TakesPart f (slots ++ [x]) i c ↔
      TakesPart f slots i c ∨ (i = slots.length ∧ x = some c ∧ applies f c = true) := by
  have lookup : (slots ++ [x])[i]? = some (some c) ↔
      slots[i]? = some (some c) ∨ (i = slots.length ∧ x = some c) := by
    rcases Nat.lt_trichotomy i slots.length with before | rfl | after
    · rw [List.getElem?_append_left before, or_iff_left fun h => Nat.ne_of_lt before h.1]
    · rw [List.getElem?_concat_length, List.getElem?_eq_none (Nat.le_refl _), Option.some.injEq]
      exact ⟨fun hx => .inr ⟨rfl, hx⟩, fun h => h.elim (fun no => nomatch no) And.right⟩
    · have beyond : (slots ++ [x]).length ≤ i := by
        rw [List.length_append, List.length_singleton]
        exact after
      rw [List.getElem?_eq_none beyond, List.getElem?_eq_none (Nat.le_of_lt after),
        or_iff_left fun h => Nat.ne_of_gt after h.1]
  simp only [TakesPart, lookup, or_and_right, and_assoc]

/-- What a field holds once the slots have been read: nothing when no contribution takes part, else the
smallest value, from the lowest slot that holds it (R36, R37). -/
def Binds (f : EnvField) (slots : List (Option Contribution)) : Option Bound → Prop
  | none => ∀ i c, ¬ TakesPart f slots i c
  | some b =>
      (∃ c, TakesPart f slots b.slot c ∧ c.value = b.value ∧ c.source = b.source) ∧
      ∀ i c, TakesPart f slots i c → b.value ≤ c.value ∧ (c.value = b.value → b.slot ≤ i)

/-- `Binds` speaks of a table only through the contributions that take part. -/
theorem Binds.congr {f : EnvField} {slots slots' : List (Option Contribution)} {best : Option Bound}
    (same : ∀ i c, TakesPart f slots' i c ↔ TakesPart f slots i c) (h : Binds f slots best) :
    Binds f slots' best := by
  cases best <;> simpa only [Binds, same] using h

/-- A slot that takes no part leaves the bound. -/
theorem Binds.concat_idle {f : EnvField} {slots : List (Option Contribution)} {best : Option Bound}
    {x : Option Contribution} (idle : ∀ c, x = some c → applies f c = false) (h : Binds f slots best) :
    Binds f (slots ++ [x]) best := by
  refine h.congr fun i c => ?_
  have none_new : ¬ (i = slots.length ∧ x = some c ∧ applies f c = true) :=
    fun ⟨_, hx, ha⟩ => Bool.noConfusion ((idle c hx).symm.trans ha)
  rw [takesPart_concat, or_iff_left none_new]

/-- A slot that takes part gives the tighter of the two: it binds only when its value is strictly the
smaller, so that an equal value leaves the lower slot binding (R37). -/
theorem Binds.concat_applies {f : EnvField} {slots : List (Option Contribution)} {best : Option Bound}
    {c : Contribution} (ha : applies f c = true) (h : Binds f slots best) :
    Binds f (slots ++ [some c]) (tighter best c.value c.source slots.length) := by
  have new : TakesPart f (slots ++ [some c]) slots.length c := takesPart_concat.mpr (.inr ⟨rfl, rfl, ha⟩)
  cases best with
  | none =>
    refine ⟨⟨c, new, rfl, rfl⟩, fun i d hd => ?_⟩
    obtain old | ⟨rfl, ⟨⟩, -⟩ := takesPart_concat.mp hd
    · exact absurd old (h i d)
    · exact ⟨Nat.le_refl _, fun _ => Nat.le_refl _⟩
  | some b =>
    obtain ⟨⟨e, he, value, source⟩, least⟩ := h
    by_cases smaller : c.value < b.value
    · rw [tighter, if_pos smaller]
      refine ⟨⟨c, new, rfl, rfl⟩, fun i d hd => ?_⟩
      obtain old | ⟨rfl, ⟨⟩, -⟩ := takesPart_concat.mp hd
      · have := (least i d old).1
        exact ⟨by dsimp only; omega, fun tie => by dsimp only at tie; omega⟩
      · exact ⟨Nat.le_refl _, fun _ => Nat.le_refl _⟩
    · rw [tighter, if_neg smaller]
      refine ⟨⟨e, takesPart_concat.mpr (.inl he), value, source⟩, fun i d hd => ?_⟩
      obtain old | ⟨rfl, ⟨⟩, -⟩ := takesPart_concat.mp hd
      · exact least i d old
      · exact ⟨Nat.le_of_not_lt smaller, fun _ => Nat.le_of_lt he.lt_length⟩

/-- Reading on from a bound for the slots before keeps it the bound for all slots read. -/
theorem bindFrom_binds {f : EnvField} (rest : List (Option Contribution)) :
    ∀ {seen : List (Option Contribution)} {best : Option Bound}, Binds f seen best →
      Binds f (seen ++ rest) (bindFrom f best seen.length rest) := by
  induction rest with
  | nil => intro seen best h; simpa [bindFrom] using h
  | cons x rest ih =>
    intro seen best h
    cases x with
    | none => simpa [bindFrom] using ih (h.concat_idle (x := none) (by simp))
    | some c =>
      by_cases ha : applies f c = true
      · simpa [bindFrom, ha] using ih (h.concat_applies ha)
      · simpa [bindFrom, ha] using ih (h.concat_idle (x := some c) (by simpa using ha))

/-- The derived field is the bound for the whole table. -/
theorem deriveField_binds (slots : List (Option Contribution)) (f : EnvField) :
    Binds f slots (deriveField slots f) :=
  bindFrom_binds (seen := []) slots (by simp [Binds, TakesPart])

theorem deriveField_eq_none_iff {slots : List (Option Contribution)} {f : EnvField} :
    deriveField slots f = none ↔ ∀ i c, ¬ TakesPart f slots i c := by
  have binds := deriveField_binds slots f
  constructor
  · intro isOpen
    rwa [isOpen] at binds
  · intro idle
    cases hb : deriveField slots f with
    | none => rfl
    | some b =>
      rw [hb] at binds
      obtain ⟨⟨c, hc, -⟩, -⟩ := binds
      exact absurd hc (idle b.slot c)

/-- Settles O12, by induction on the slots still to be read: the bound found so far is the smallest value of
the slots read, in the lowest slot that holds it (`Binds`). -/
theorem envelopeFieldIsTheSmallestInTheLowestSlot :
    Obligations.EnvelopeFieldIsTheSmallestInTheLowestSlot := by
  refine ⟨fun c => by simp [applies, scope_ne_right_iff, scope_ne_left_iff], fun slots f => ⟨?_, ?_⟩⟩
  · simp [deriveField_eq_none_iff, TakesPart]
  · intro b hb
    rw [deriveEnvelope_field] at hb
    have binds := deriveField_binds slots f
    rw [hb] at binds
    obtain ⟨⟨c, ⟨present, applicable⟩, value, source⟩, least⟩ := binds
    exact ⟨⟨c, present, applicable, value, source⟩, fun i d hd ha => least i d ⟨hd, ha⟩⟩

end Sys2Proof.Proofs

/-! ### The effective demand: the blend, the holder's demand, the park brake (R61, R62, R63, R64) -/

namespace Sys2Proof.Proofs

open Sys2Proof.Machine

/-! A demand as it acts: a STALE one loses propel and setpoint, and nothing else. -/

@[simp] theorem reduced_direction (d : Demand) : (reduced d).direction = d.direction := by
  unfold reduced; split <;> rfl

@[simp] theorem reduced_retard (d : Demand) : (reduced d).retard = d.retard := by
  unfold reduced; split <;> rfl

theorem reduced_propel (d : Demand) :
    (reduced d).propel = if d.freshness = .stale then 0 else d.propel := by
  unfold reduced; split <;> simp [*]

theorem reduced_setpoint (d : Demand) :
    (reduced d).setpoint = if d.freshness = .stale then none else d.setpoint := by
  unfold reduced; split <;> simp [*]

@[simp] theorem smallerSetpoint_none_left (b : Option Nat) : smallerSetpoint none b = b := rfl

@[simp] theorem smallerSetpoint_none_right (a : Option Nat) : smallerSetpoint a none = a := by
  cases a <;> rfl

/-! The park brake acts on propel and on its own flag, and on nothing else (R63). -/

section ParkBrake
variable (b : ParkBrake) (d : EffDemand)

@[simp] theorem withParkBrake_direction : (withParkBrake b d).direction = d.direction := by cases b <;> rfl
@[simp] theorem withParkBrake_retard : (withParkBrake b d).retard = d.retard := by cases b <;> rfl
@[simp] theorem withParkBrake_setpoint : (withParkBrake b d).setpoint = d.setpoint := by cases b <;> rfl
@[simp] theorem withParkBrake_origin : (withParkBrake b d).origin = d.origin := by cases b <;> rfl
@[simp] theorem withParkBrake_stale : (withParkBrake b d).stale = d.stale := by cases b <;> rfl
@[simp] theorem withParkBrake_handover : (withParkBrake b d).handover = d.handover := by cases b <;> rfl

@[simp] theorem withParkBrake_released : withParkBrake .released d = d := rfl
@[simp] theorem withParkBrake_applied :
    withParkBrake .applied d = { d with propel := 0, parkBrake := true } := rfl

/-- A demand without propel has none under the park brake either. -/
theorem withParkBrake_propel_eq_zero (h : d.propel = 0) : (withParkBrake b d).propel = 0 := by
  cases b
  · exact h
  · rfl

/-- The flag shows the park brake alone, for a demand formed before it acts. -/
theorem withParkBrake_parkBrake_iff (h : d.parkBrake = false) :
    (withParkBrake b d).parkBrake = true ↔ b = .applied := by
  cases b <;> simp [h]

/-- A direction settled before the park brake acts is settled after it. -/
theorem withParkBrake_with_direction (dir : Direction) :
    withParkBrake b { d with direction := dir } = { withParkBrake b d with direction := dir } := by
  cases b <;> rfl

end ParkBrake

/-! The blend of two demand records (R62). -/

section Blend
variable {cab sup : Demand} {ask : Option Direction}

theorem blendDemand_direction_of_agree (h : cab.direction = sup.direction) :
    (blendDemand cab sup ask).direction = cab.direction := by
  simp [blendDemand, h]

theorem blendDemand_direction_of_differ (h : cab.direction ≠ sup.direction) :
    (blendDemand cab sup ask).direction = ask.getD sup.direction := by
  simp [blendDemand, h]

theorem blendDemand_propel_of_agree (h : cab.direction = sup.direction) :
    (blendDemand cab sup ask).propel = min (reduced cab).propel (reduced sup).propel := by
  simp [blendDemand, h]

theorem blendDemand_propel_of_differ (h : cab.direction ≠ sup.direction) :
    (blendDemand cab sup ask).propel = 0 := by
  simp [blendDemand, h]

theorem blendDemand_retard : (blendDemand cab sup ask).retard = max cab.retard sup.retard := by
  simp [blendDemand]

theorem blendDemand_setpoint :
    (blendDemand cab sup ask).setpoint = smallerSetpoint (reduced cab).setpoint (reduced sup).setpoint := rfl

theorem blendDemand_stale_iff :
    (blendDemand cab sup ask).stale = true ↔ cab.freshness = .stale ∨ sup.freshness = .stale := by
  simp [blendDemand]

/-- An ask without an axle direction differs from one with it in the direction alone: propel is 0 wherever
the two directions differ, whichever of them is taken (R64). -/
theorem blendDemand_none_eq (axle : Option Direction) :
    blendDemand cab sup none =
      { blendDemand cab sup axle with
        direction := if cab.direction = sup.direction then cab.direction else sup.direction } := by
  by_cases h : cab.direction = sup.direction <;> simp [blendDemand, h]

end Blend

/-! What the authority record makes of the demand records (R61), the park brake still to act. -/

section Authority
variable {s : State} {ask : Option Direction}

theorem effectiveDemand_of_handover (h : s.authority.record.state = .handover) :
    effectiveDemand ask s = withParkBrake s.steering.cab.parkBrake
      (blendDemand s.authority.demands.cab s.authority.demands.supervisor ask) := by
  simp [effectiveDemand, authorityDemand, h]

theorem effectiveDemand_of_vacant (h : s.authority.record.state = .vacant) :
    effectiveDemand ask s = withParkBrake s.steering.cab.parkBrake neutralDemand := by
  simp [effectiveDemand, authorityDemand, h]

theorem effectiveDemand_of_held {x : Party} (h : s.authority.record.state = .held)
    (holder : s.authority.record.holder = some x) :
    effectiveDemand ask s =
      withParkBrake s.steering.cab.parkBrake (heldDemand x (s.authority.demands.get x)) := by
  simp [effectiveDemand, authorityDemand, h, holder]

/-- No demand formed from authority shows the park brake; that flag is the park brake's own (R63). -/
theorem authorityDemand_parkBrake (a : AuthorityUnit) : (authorityDemand a ask).parkBrake = false := by
  unfold authorityDemand; split <;> rfl

theorem authorityDemand_handover_of_ne {a : AuthorityUnit} (h : a.record.state ≠ .handover) :
    (authorityDemand a ask).handover = false := by
  unfold authorityDemand
  split
  · rfl
  · contradiction
  · rfl
  · rfl

theorem effectiveDemand_parkBrake_iff :
    (effectiveDemand ask s).parkBrake = true ↔ s.steering.cab.parkBrake = .applied :=
  withParkBrake_parkBrake_iff _ _ (authorityDemand_parkBrake _)

theorem effectiveDemand_propel_of_applied (h : s.steering.cab.parkBrake = .applied) :
    (effectiveDemand ask s).propel = 0 := by
  rw [effectiveDemand, h, withParkBrake_applied]

theorem effectiveDemand_handover_of_ne (h : s.authority.record.state ≠ .handover) :
    (effectiveDemand ask s).handover = false := by
  rw [effectiveDemand, withParkBrake_handover, authorityDemand_handover_of_ne h]

end Authority

/-- Settles O24: in a handover the effective demand is the blend under the park brake, outside it the neutral
or the holder's demand under the park brake, and each clause is read off that form. -/
theorem handoverDemandIsABlend : Obligations.HandoverDemandIsABlend := by
  refine ⟨fun s axle handover => ?_, fun s ask notHandover => ?_⟩
  · intro c v d propelOf setpointOf
    have form : d = withParkBrake s.steering.cab.parkBrake (blendDemand c v (some axle)) :=
      effectiveDemand_of_handover handover
    have setpoint : d.setpoint = smallerSetpoint (setpointOf c) (setpointOf v) := by
      rw [form, withParkBrake_setpoint, blendDemand_setpoint, reduced_setpoint, reduced_setpoint]
    have flag : d.parkBrake = true ↔ s.steering.cab.parkBrake = .applied := effectiveDemand_parkBrake_iff
    refine ⟨?origin, ?handover, ?retard, ?stale, ?agreeDirection, ?differ, ?agreePropel, ?bothSetpoints,
      ?setpointOfSup, ?setpointOfCab, ?applied, ?released, ?unasked⟩
    case origin => rw [form, withParkBrake_origin]; rfl
    case handover => rw [form, withParkBrake_handover]; rfl
    case retard => rw [form, withParkBrake_retard, blendDemand_retard]
    case stale => rw [form, withParkBrake_stale, blendDemand_stale_iff]
    case agreeDirection =>
      intro agree
      rw [form, withParkBrake_direction, blendDemand_direction_of_agree agree]
    case differ =>
      intro differ
      rw [form, withParkBrake_direction, blendDemand_direction_of_differ differ]
      exact ⟨rfl, withParkBrake_propel_eq_zero _ _ (blendDemand_propel_of_differ differ)⟩
    case agreePropel =>
      intro agree released
      rw [form, released, withParkBrake_released, blendDemand_propel_of_agree agree, reduced_propel,
        reduced_propel]
    case bothSetpoints => intro a b ha hb; rw [setpoint, ha, hb]; rfl
    case setpointOfSup => intro absent; rw [setpoint, absent, smallerSetpoint_none_left]
    case setpointOfCab => intro absent; rw [setpoint, absent, smallerSetpoint_none_right]
    case applied => exact fun applied => ⟨effectiveDemand_propel_of_applied applied, flag.mpr applied⟩
    case released =>
      intro released
      rw [form, released]
      rfl
    case unasked =>
      rw [effectiveDemand_of_handover handover, form, blendDemand_none_eq (some axle),
        withParkBrake_with_direction]
  · refine ⟨effectiveDemand_handover_of_ne notHandover, effectiveDemand_parkBrake_iff,
      effectiveDemand_propel_of_applied, fun vacant => ?_, fun x held holder => ?_⟩
    · rw [effectiveDemand_of_vacant vacant]
      simp [withParkBrake_propel_eq_zero, neutralDemand]
    · rw [effectiveDemand_of_held held holder]
      refine ⟨by simp [heldDemand], by simp [heldDemand], by rw [withParkBrake_origin]; cases x <;> rfl,
        fun fresh => ?_, fun stale => ?_⟩
      · have whole : reduced (s.authority.demands.get x) = s.authority.demands.get x := by
          rw [reduced, fresh]
        refine ⟨by simp [heldDemand, fresh], by simp [heldDemand, whole], fun released => ?_⟩
        rw [released, withParkBrake_released, heldDemand, whole]
      · refine ⟨by simp [heldDemand, stale], by simp [heldDemand, reduced_setpoint, stale],
          withParkBrake_propel_eq_zero _ _ ?_⟩
        simp [heldDemand, reduced_propel, stale]

end Sys2Proof.Proofs

/-! ### Stage 1 of a pass: direction, mode and effort (R70, R71, R72) -/

namespace Sys2Proof.Proofs

open Sys2Proof.Machine

theorem modeOf_of_retard {bq : Nat} (pq : Nat) (axle : Direction) (h : 0 < bq) :
    modeOf bq pq axle = (.retard, bq) := if_pos h

theorem modeOf_of_propel {pq : Nat} {axle : Direction} (asked : 0 < pq) (geared : axle ≠ .neutral) :
    modeOf 0 pq axle = (.propel, pq) := by
  simp [modeOf, asked, geared]

theorem modeOf_of_neither {pq : Nat} {axle : Direction} (h : pq = 0 ∨ axle = .neutral) :
    modeOf 0 pq axle = (.neutral, 0) := by
  have idle : ¬ (0 < pq ∧ axle ≠ .neutral) := fun ⟨asked, geared⟩ => h.elim (by omega) geared
  simp [modeOf, idle]

section StageOne
variable (d : EffDemand) (bHold : Nat) (axle : Direction) (stationary : Bool)

/-- A change of direction is held exactly while one is asked for on a moving truck (R71). -/
theorem stageOne_held_iff :
    (stageOne d bHold axle stationary).held = true ↔ d.direction ≠ axle ∧ stationary = false := by
  simp [stageOne]

/-- A held change leaves the axle; otherwise it stands as the demand has it (R71). -/
theorem stageOne_axle :
    (stageOne d bHold axle stationary).axle =
      if (stageOne d bHold axle stationary).held = true then axle else d.direction := rfl

/-- Mode and effort of stage 1: those of the larger retard effort, and of the propel effort where no change
is held (R71, R72). -/
theorem stageOne_mode_q :
    ((stageOne d bHold axle stationary).mode, (stageOne d bHold axle stationary).q) =
      modeOf (max d.retard bHold)
        (if (stageOne d bHold axle stationary).held = true ∨
            (stageOne d bHold axle stationary).axle = .neutral then 0 else d.propel)
        (stageOne d bHold axle stationary).axle := rfl

end StageOne

/-- What stage 1 is to settle of a demand, from the retard effort `bq`, the axle's direction and the
stationary flag (R71, R72). -/
structure Settles (d : EffDemand) (bq : Nat) (axle : Direction) (stationary : Bool) (one : StageOne) :
    Prop where
  same : d.direction = axle → one.axle = axle ∧ one.held = false
  changed : d.direction ≠ axle → stationary = true → one.axle = d.direction ∧ one.held = false
  held : d.direction ≠ axle → stationary = false → one.axle = axle ∧ one.held = true
  retard : 0 < bq → one.mode = .retard ∧ one.q = bq
  propel : bq = 0 → one.held = false → 0 < d.propel → one.axle ≠ .neutral →
    one.mode = .propel ∧ one.q = d.propel
  neutral : bq = 0 → one.held = true ∨ d.propel = 0 ∨ one.axle = .neutral →
    one.mode = .neutral ∧ one.q = 0

theorem stageOne_settles (d : EffDemand) (bHold : Nat) (axle : Direction) (stationary : Bool) :
    Settles d (max d.retard bHold) axle stationary (stageOne d bHold axle stationary) := by
  have held_iff := stageOne_held_iff d bHold axle stationary
  have axle_eq := stageOne_axle d bHold axle stationary
  have mode_q := stageOne_mode_q d bHold axle stationary
  generalize stageOne d bHold axle stationary = one at held_iff axle_eq mode_q ⊢
  have free (h : ¬ (d.direction ≠ axle ∧ stationary = false)) : one.axle = d.direction ∧ one.held = false := by
    have notHeld : ¬ one.held = true := fun held => h (held_iff.mp held)
    exact ⟨by rw [axle_eq, if_neg notHeld], eq_false_of_ne_true notHeld⟩
  constructor
  case same => exact fun same => same ▸ free fun h => h.1 same
  case changed => exact fun _ still => free fun h => by simp [still] at h
  case held =>
    intro differ moving
    have held : one.held = true := held_iff.mpr ⟨differ, moving⟩
    exact ⟨by rw [axle_eq, if_pos held], held⟩
  case retard =>
    intro effort
    rw [modeOf_of_retard _ _ effort] at mode_q
    exact Prod.ext_iff.mp mode_q
  case propel =>
    intro noRetard notHeld asked geared
    rw [noRetard, if_neg (by simp [notHeld, geared]), modeOf_of_propel asked geared] at mode_q
    exact Prod.ext_iff.mp mode_q
  case neutral =>
    intro noRetard idle
    have noPropel : (if one.held = true ∨ one.axle = .neutral then 0 else d.propel) = 0 ∨
        one.axle = .neutral := by
      obtain held | unasked | neutral := idle
      · exact .inl (if_pos (.inl held))
      · exact .inl (by rw [unasked, ite_self])
      · exact .inr neutral
    rw [noRetard, modeOf_of_neither noPropel] at mode_q
    exact Prod.ext_iff.mp mode_q

/-- Settles O27: in ACTIVE and outside it a pass runs stage 1 on the demand and the hold effort that the
statement names, and `stageOne_settles` gives its clauses. -/
theorem passSettlesDirectionAndMode : Obligations.PassSettlesDirectionAndMode := by
  intro s axle asked d bq g q
  have settles : Settles d bq axle s.capture.stationary (passEfforts s) := by
    by_cases active : s.governor.mode = .active
    · simpa [d, bq, passEfforts, active] using stageOne_settles asked s.hold.ctx.bHold axle _
    · simpa [d, bq, passEfforts, active, neutralDemand] using stageOne_settles neutralDemand 0 axle _
  exact ⟨settles.same, settles.changed, settles.held, settles.retard, settles.propel, settles.neutral⟩

end Sys2Proof.Proofs

/-! ### Stages 4 to 7 of a pass: cap, target, slew and binding (R76 to R79, R81, R82, R83) -/

namespace Sys2Proof.Proofs

open Sys2Proof.Machine

/-! The cap is the smallest of the capability and the other terms; the term that set it names the binding. -/

section Caps
variable {c : Nat} {terms rest : List Term} {field : Option Bound}

theorem capOf_append : capOf c (terms ++ rest) = capOf (capOf c terms) rest := List.foldl_append

/-- At most one term more: what it has, or the cap as it was. -/
theorem capOf_optional (value : Option Nat) (b : Binding × Option Source) :
    capOf c (value.toList.map fun x => (x, b)) = min c (value.getD c) := by
  cases value <;> simp [capOf]

theorem capOf_limitTerm : capOf c (limitTerm field) = min c ((field.map (·.value)).getD c) := by
  cases field <;> simp [capOf, limitTerm]

/-- The cap is the capability or the value of a term. -/
theorem capOf_attained : capOf c terms = c ∨ ∃ t ∈ terms, t.1 = capOf c terms := by
  induction terms generalizing c with
  | nil => exact .inl rfl
  | cons u terms ih =>
    have next : capOf c (u :: terms) = capOf (min c u.1) terms := rfl
    rw [next]
    obtain stays | ⟨t, ht, value⟩ := ih (c := min c u.1)
    · rw [stays]
      obtain least | least := Nat.le_total c u.1
      · exact .inl (Nat.min_eq_left least)
      · exact .inr ⟨u, List.mem_cons_self, (Nat.min_eq_right least).symm⟩
    · exact .inr ⟨t, List.mem_cons_of_mem _ ht, value⟩

theorem bindingTerm_of_capability (h : capOf c terms = c) : bindingTerm c terms = (.capability, none) :=
  if_pos h.symm

/-- Below the capability the first term equal to the cap names the binding (R83). -/
theorem bindingTerm_of_find {t : Term} (below : capOf c terms ≠ c)
    (first : terms.find? (fun t => t.1 == capOf c terms) = some t) : bindingTerm c terms = t.2 := by
  rw [bindingTerm, if_neg below.symm, first]

/-- A field that stands at the cap binds ahead of the other terms (R83). -/
theorem bindingTerm_of_limit {b : Bound} (below : capOf c (limitTerm (some b) ++ rest) ≠ c)
    (value : b.value = capOf c (limitTerm (some b) ++ rest)) :
    bindingTerm c (limitTerm (some b) ++ rest) = (.limit, some b.source) :=
  bindingTerm_of_find (t := (b.value, .limit, some b.source)) below
    (List.find?_cons_of_pos (by simpa using value))

/-- With the field above the cap or OPEN, one of the other terms binds (R83). -/
theorem bindingTerm_of_rest {k : Binding} (only : ∀ t ∈ rest, t.2 = (k, none))
    (below : capOf c (limitTerm field ++ rest) ≠ c)
    (above : ∀ b, field = some b → b.value ≠ capOf c (limitTerm field ++ rest)) :
    bindingTerm c (limitTerm field ++ rest) = (k, none) := by
  have inRest {t : Term} (ht : t ∈ limitTerm field ++ rest)
      (value : t.1 = capOf c (limitTerm field ++ rest)) : t ∈ rest := by
    refine (List.mem_append.mp ht).resolve_left fun limit => ?_
    cases field with
    | none => cases limit
    | some b => exact above b rfl (by rw [← value, List.mem_singleton.mp limit])
  cases first : (limitTerm field ++ rest).find? (fun t => t.1 == capOf c (limitTerm field ++ rest)) with
  | none =>
    obtain ⟨t, ht, value⟩ := capOf_attained.resolve_left below
    exact absurd (List.find?_eq_none.mp first t ht) (by simp [value])
  | some t =>
    rw [bindingTerm_of_find below first]
    exact only t (inRest (List.mem_of_find?_eq_some first) (by simpa using List.find?_some first))

end Caps

/-! The terms of a wheel's cap, by the mode of the pass (R77, R79). -/

/-- The envelope field that bounds a wheel in a mode (R77, R79). -/
def boundField (s : State) : GrantMode → Wheel → Option Bound
  | .propel, w => propelField s w
  | .retard, w => retardField s w
  | .neutral, _ => none

/-- The taper of a wheel's cap, where SPEED lies less than a band above v (R78). -/
def taperCap (s : State) (c : Nat) : Option Nat :=
  match s.limits.envelope.speed with
  | none => none
  | some b =>
      if b.value ≤ s.capture.v then some 0
      else if b.value < s.capture.v + taperBand s then some (c * (b.value - s.capture.v) / taperBand s)
      else none

/-- The value beside the capability and the field that bounds a wheel in a mode: the taper in PROPEL, the
power share in RETARD (R78, R79). -/
def ownCap (s : State) (m : GrantMode) (w : Wheel) (c : Nat) : Option Nat :=
  match m with
  | .propel => taperCap s c
  | .retard => s.limits.envelope.retardPower.map fun b =>
      powerShare b.value (s.steering.shares.get w) (rpmPrime s w)
  | .neutral => none

/-- What a cap at that value is put down to (R83). -/
def ownBinding (m : GrantMode) : Binding := if m = .propel then .taper else .powerShare

/-- The terms of a cap after its capability and its field: at most one. -/
def ownTerms (s : State) (m : GrantMode) (w : Wheel) (c : Nat) : List Term :=
  (ownCap s m w c).toList.map fun value => (value, ownBinding m, none)

theorem taperTerm_eq (s : State) (w : Wheel) (c : Nat) : taperTerm s c = ownTerms s .propel w c := by
  unfold taperTerm ownTerms ownCap taperCap
  dsimp only
  cases s.limits.envelope.speed with
  | none => rfl
  | some b =>
    dsimp only
    split
    · rfl
    · split <;> rfl

theorem powerTerm_eq (s : State) (w : Wheel) (c : Nat) : powerTerm s w = ownTerms s .retard w c := by
  unfold powerTerm ownTerms ownCap
  cases s.limits.envelope.retardPower <;> rfl

theorem otherTerms_eq (s : State) (m : GrantMode) (w : Wheel) (c : Nat) :
    otherTerms s m w c = limitTerm (boundField s m w) ++ ownTerms s m w c := by
  cases m with
  | neutral => rfl
  | propel => rw [← taperTerm_eq]; rfl
  | retard => rw [← powerTerm_eq]; rfl

theorem ownTerms_binding {s : State} {m : GrantMode} {w : Wheel} {c : Nat} {t : Term}
    (h : t ∈ ownTerms s m w c) : t.2 = (ownBinding m, none) := by
  obtain ⟨value, -, rfl⟩ := List.mem_map.mp h
  rfl

/-! The torque of a grant (R81, R82). -/

theorem slewed_le_target (same : Bool) (target prev slew : Nat) : slewed same target prev slew ≤ target := by
  unfold slewed
  split
  · split
    · exact Nat.min_le_left _ _
    · exact Nat.le_refl _
  · exact Nat.min_le_left _ _

theorem slewed_of_rise {target prev : Nat} (slew : Nat) (rise : prev < target) :
    slewed true target prev slew = min target (prev + slew) := by
  simp [slewed, rise]

theorem slewed_of_fall {target prev : Nat} (slew : Nat) (fall : target ≤ prev) :
    slewed true target prev slew = target := by
  simp [slewed, Nat.not_lt.mpr fall]

theorem slewed_of_new_mode (target prev slew : Nat) : slewed false target prev slew = min target slew := rfl

/-! What a pass grants a wheel. -/

@[simp] theorem passRecord_mode (s : State) : (passRecord s).mode = (passEfforts s).mode := rfl

@[simp] theorem passRecord_wheel (s : State) (w : Wheel) :
    (passRecord s).wheels.get w = wheelGrant s (passEfforts s).mode (passEfforts s).q w := by
  cases w <;> rfl

section WheelGrant
variable (s : State) (m : GrantMode) (q : Nat) (w : Wheel)

@[simp] theorem wheelGrant_capability : (wheelGrant s m q w).capability = capability s m w := rfl

@[simp] theorem wheelGrant_speedUsed : (wheelGrant s m q w).speedUsed = rpmPrime s w := rfl

theorem wheelGrant_cap_of_neutral : (wheelGrant s .neutral q w).cap = 0 := rfl

/-- Outside NEUTRAL the cap is that of the capability, the field and the mode's own terms. -/
theorem wheelGrant_cap {m : GrantMode} (h : m ≠ .neutral) :
    (wheelGrant s m q w).cap =
      capOf (capability s m w) (limitTerm (boundField s m w) ++ ownTerms s m w (capability s m w)) := by
  rw [← otherTerms_eq]
  exact if_neg h

/-- The cap as the smallest of three values, of which the field and the mode's own may be absent. -/
theorem wheelGrant_cap_eq_min {m : GrantMode} (h : m ≠ .neutral) :
    (wheelGrant s m q w).cap =
      min (capability s m w)
        (min (((boundField s m w).map (·.value)).getD (capability s m w))
          ((ownCap s m w (capability s m w)).getD (capability s m w))) := by
  rw [wheelGrant_cap s q w h, capOf_append, capOf_limitTerm, ownTerms, capOf_optional, ← Nat.min_assoc]
  cases ownCap s m w (capability s m w) <;> simp

/-- The target of a wheel: the smaller of its request and its cap (R81). -/
def targetOf : Nat :=
  min (requestOf q (capability s m .left) (capability s m .right) (s.steering.shares.get w))
    (wheelGrant s m q w).cap

theorem wheelGrant_torque :
    (wheelGrant s m q w).torque = slewed (m == s.resolver.last.mode) (targetOf s m q w)
      (s.resolver.last.wheels.get w).torque (slewStep s m) := rfl

theorem wheelGrant_torque_le_target : (wheelGrant s m q w).torque ≤ targetOf s m q w :=
  slewed_le_target _ _ _ _

theorem wheelGrant_torque_le_cap : (wheelGrant s m q w).torque ≤ (wheelGrant s m q w).cap :=
  Nat.le_trans (wheelGrant_torque_le_target s m q w) (Nat.min_le_right _ _)

theorem wheelGrant_binding :
    ((wheelGrant s m q w).binding, (wheelGrant s m q w).bindingSource) =
      bindingOf m (wheelGrant s m q w).torque (targetOf s m q w)
        (requestOf q (capability s m .left) (capability s m .right) (s.steering.shares.get w))
        (wheelGrant s m q w).cap (capability s m w) (otherTerms s m w (capability s m w)) := rfl

end WheelGrant

/-! The binding of a grant, case by case (R83). -/

section Binding
variable {m : GrantMode} {grant target request cap c : Nat} {terms : List Term}

theorem bindingOf_of_slew (moving : m ≠ .neutral) (h : grant < target) :
    bindingOf m grant target request cap c terms = (.slew, none) := by
  simp [bindingOf, moving, h]

theorem bindingOf_of_request (moving : m ≠ .neutral) (reached : grant = target) (h : request < cap) :
    bindingOf m grant target request cap c terms = (.request, none) := by
  simp [bindingOf, moving, reached, h]

theorem bindingOf_of_cap (moving : m ≠ .neutral) (reached : grant = target) (h : cap ≤ request) :
    bindingOf m grant target request cap c terms = bindingTerm c terms := by
  simp [bindingOf, moving, reached, Nat.not_lt.mpr h]

end Binding

/-- Settles O30: the record's wheel is `wheelGrant`, whose cap, torque and binding the lemmas above give. -/
theorem torqueFollowsTargetSlewAndBinding : Obligations.TorqueFollowsTargetSlewAndBinding := by
  intro s w g x request target before slew field v taper
  have wheel : x = wheelGrant s g.mode (passEfforts s).q w := passRecord_wheel s w
  have field_eq : field = boundField s g.mode w := by
    simp only [field]
    cases g.mode <;> cases w <;> rfl
  have slew_eq : slew = slewStep s g.mode := by
    simp only [slew]
    cases g.mode <;> rfl
  have capability_eq : x.capability = capability s g.mode w := by rw [wheel]; rfl
  have target_eq : targetOf s g.mode (passEfforts s).q w = target := by
    simp only [target, wheel]; rfl
  have torque_eq : x.torque = slewed (g.mode == s.resolver.last.mode) target before slew := by
    rw [wheel, wheelGrant_torque, target_eq, slew_eq]
  have binding_eq : (x.binding, x.bindingSource) =
      bindingOf g.mode x.torque target request x.cap x.capability
        (limitTerm field ++ ownTerms s g.mode w x.capability) := by
    rw [capability_eq, field_eq, ← otherTerms_eq, ← target_eq, wheel]
    exact wheelGrant_binding _ _ _ _
  have cap_eq (moving : g.mode ≠ .neutral) :
      x.cap = capOf x.capability (limitTerm field ++ ownTerms s g.mode w x.capability) := by
    rw [capability_eq, field_eq, wheel, wheelGrant_cap _ _ _ moving]
  have named {b : Binding} {source : Option Source} (h : (x.binding, x.bindingSource) = (b, source)) :
      x.binding = b ∧ x.bindingSource = source := Prod.mk.inj h
  refine ⟨?atRest, ?propelCap, ?rise, ?fall, ?newMode, fun moving => ⟨?slew, ?request, ?cap⟩⟩
  case atRest =>
    intro neutral
    have cap : x.cap = 0 := by rw [wheel, neutral, wheelGrant_cap_of_neutral]
    have torque : x.torque ≤ x.cap := wheel ▸ wheelGrant_torque_le_cap _ _ _ _
    have binding := named (b := .zero) (source := none) (binding_eq.trans (if_pos neutral))
    exact ⟨by omega, cap, binding⟩
  case propelCap =>
    intro propel
    have taper_eq : ownCap s g.mode w x.capability = taper := by
      rw [propel]
      simp only [taper, ownCap, taperCap]
      cases s.limits.envelope.speed <;> rfl
    rw [field_eq, ← taper_eq, capability_eq, wheel]
    exact wheelGrant_cap_eq_min _ _ _ (by simp [propel])
  case rise =>
    intro same rise
    rw [torque_eq, beq_iff_eq.mpr same, slewed_of_rise slew rise]
  case fall =>
    intro same fall
    rw [torque_eq, beq_iff_eq.mpr same, slewed_of_fall slew fall]
  case newMode =>
    intro differ
    rw [torque_eq, beq_eq_false_iff_ne.mpr differ, slewed_of_new_mode]
  case slew => exact fun short => named (binding_eq.trans (bindingOf_of_slew moving short))
  case request =>
    exact fun reached least => named (binding_eq.trans (bindingOf_of_request moving reached least))
  case cap =>
    intro reached capped
    have term := binding_eq.trans (bindingOf_of_cap moving reached capped)
    have cap := cap_eq moving
    refine ⟨fun atCapability => ?capability, fun below => ⟨fun b present value => ?limit, fun above => ?rest⟩⟩
    case capability => exact named (term.trans (bindingTerm_of_capability (cap ▸ atCapability)))
    all_goals rw [cap] at below
    case limit =>
      rw [cap, present] at value
      rw [present] at term below
      exact named (term.trans (bindingTerm_of_limit below value))
    case rest =>
      simp only [cap] at above
      exact named (term.trans (bindingTerm_of_rest (fun _ => ownTerms_binding) below above))

end Sys2Proof.Proofs

/-! ### The retard power law (R79) -/

namespace Sys2Proof.Proofs

open Sys2Proof.Machine Sys2Proof.Safety

/-! The law for the record of a pass. -/

/-- A share times rpm' stays within the share's part of the power. -/
theorem powerShare_mul_le (p share rpm' : Nat) :
    powerShare p share rpm' * rpm' * 1000 ≤ p * share * 9549 := by
  calc powerShare p share rpm' * rpm' * 1000
      = p * share * 9549 / (1000 * rpm') * (1000 * rpm') := by
        rw [powerShare, Nat.mul_assoc, Nat.mul_comm rpm']
    _ ≤ p * share * 9549 := Nat.div_mul_le_self _ _

/-- A RETARD cap is at most the wheel's power share. -/
theorem wheelGrant_cap_le_powerShare {s : State} {b : Bound} (power : s.limits.envelope.retardPower = some b)
    (q : Nat) (w : Wheel) :
    (wheelGrant s .retard q w).cap ≤ powerShare b.value (s.steering.shares.get w) (rpmPrime s w) := by
  rw [wheelGrant_cap_eq_min s q w (by decide)]
  simp only [ownCap, power, Option.map_some, Option.getD_some]
  exact Nat.le_trans (Nat.min_le_right _ _) (Nat.min_le_right _ _)

/-- Torque times rpm' of a RETARD grant stays within the wheel's part of the power. -/
theorem wheelGrant_power_le {s : State} {b : Bound} (power : s.limits.envelope.retardPower = some b)
    (q : Nat) (w : Wheel) :
    (wheelGrant s .retard q w).torque * (wheelGrant s .retard q w).speedUsed * 1000 ≤
      b.value * s.steering.shares.get w * 9549 := by
  have torque := Nat.le_trans (wheelGrant_torque_le_cap s .retard q w) (wheelGrant_cap_le_powerShare power q w)
  exact Nat.le_trans (Nat.mul_le_mul_right _ (Nat.mul_le_mul_right _ torque)) (powerShare_mul_le _ _ _)

/-- The power a record's torques take together, in the unit of R79. -/
def powerOf (g : Grant) : Nat :=
  g.wheels.left.torque * g.wheels.left.speedUsed + g.wheels.right.torque * g.wheels.right.speedUsed

/-- The shares sum to 1000, so the two parts sum to the power. -/
theorem passRecord_power_le {s : State} {b : Bound} (shares : ShareInv s)
    (power : s.limits.envelope.retardPower = some b) (retard : (passRecord s).mode = .retard) :
    powerOf (passRecord s) ≤ b.value * 9549 := by
  have part (w : Wheel) :
      ((passRecord s).wheels.get w).torque * ((passRecord s).wheels.get w).speedUsed * 1000 ≤
        b.value * s.steering.shares.get w * 9549 := by
    rw [passRecord_wheel, ← passRecord_mode, retard]
    exact wheelGrant_power_le power _ w
  have parts : b.value * s.steering.shares.left * 9549 + b.value * s.steering.shares.right * 9549 =
      b.value * 9549 * 1000 := by
    rw [← shares, Nat.mul_right_comm b.value s.steering.shares.left,
      Nat.mul_right_comm b.value s.steering.shares.right, Nat.mul_add]
  have left := part .left
  have right := part .right
  simp only [PerWheel.get] at left right
  unfold powerOf
  omega

theorem passRecord_retard_cap {s : State} {b : Bound} (power : s.limits.envelope.retardPower = some b)
    (retard : (passRecord s).mode = .retard) (w : Wheel) :
    let x := (passRecord s).wheels.get w
    x.cap = min (min x.capability (powerShare b.value (s.steering.shares.get w) x.speedUsed))
      (((retardField s w).map (·.value)).getD x.capability) := by
  intro x
  have wheel : x = wheelGrant s .retard (passEfforts s).q w := by
    rw [← retard]; exact passRecord_wheel s w
  rw [wheel, wheelGrant_cap_eq_min s _ w (by decide), wheelGrant_capability, wheelGrant_speedUsed,
    Nat.min_assoc, Nat.min_comm (powerShare _ _ _)]
  simp only [boundField, ownCap, power, Option.map_some, Option.getD_some]

/-! From commit on RETARD_POWER is not OPEN: GRID stands in slot 1 (R34, R79). -/

theorem slotAt_eq_some_iff {u : LimitUnit} {i : Nat} {c : Contribution} :
    slotAt u i = some c ↔ u.slots[i]? = some (some c) := by
  simp [slotAt, Option.join_eq_some_iff]

/-- What stands in slot 1 bounds RETARD_POWER (R21, R35). -/
theorem takesPart_of_slot_one {s : State} (table : TableInv s) {c : Contribution}
    (present : slotAt s.limits 1 = some c) : TakesPart .retardPower s.limits.slots 1 c := by
  have key : internalKeys[1]? = some (keyOf c) :=
    (show internalKeys[1]? = some (keyOf c) ∧ _ from table.fits 1 c present).1
  have fields : (Source.grid, Kind.retardPower, Scope.axle) = (c.source, c.kind, c.scope) :=
    Option.some.inj key
  simp only [Prod.mk.injEq] at fields
  obtain ⟨-, kind, scope⟩ := fields
  exact ⟨slotAt_eq_some_iff.mp present, by simp [applies, ← kind, ← scope]⟩

theorem retardPower_isSome {s : State} (table : TableInv s) (grid : GridInv s)
    (committed : s.profile.committed = true) : s.limits.envelope.retardPower.isSome = true := by
  have posted := grid.posted (grid.committed.trans committed)
  obtain ⟨c, present, -⟩ := Option.map_eq_some_iff.mp posted
  rw [table.envelope]
  change (deriveField s.limits.slots .retardPower).isSome = true
  refine Option.isSome_iff_ne_none.mpr fun isOpen => ?_
  exact deriveField_eq_none_iff.mp isOpen 1 c (takesPart_of_slot_one table present)

/-! What an event makes of the last published record: only a pass publishes a record with a mode. -/

/-- The last published record stands, or a NEUTRAL one has taken its place. -/
def KeepsLast (s t : State) : Prop :=
  t.resolver.last = s.resolver.last ∨ t.resolver.last.mode = .neutral

theorem KeepsLast.refl (s : State) : KeepsLast s s := .inl rfl

theorem KeepsLast.trans {s t u : State} (h : KeepsLast s t) (k : KeepsLast t u) : KeepsLast s u := by
  obtain same | neutral := k
  · exact h.imp same.trans fun n => (congrArg Grant.mode same).trans n
  · exact .inr neutral

/-- An operation done under a condition keeps the last record when the operation does. -/
theorem KeepsLast.ite {p : Prop} [Decidable p] {s t u : State} (h : p → KeepsLast s t)
    (k : ¬ p → KeepsLast s u) : KeepsLast s (if p then t else u) := by
  split
  · exact h ‹_›
  · exact k ‹_›

/-- What leaves the Effort Resolver alone keeps the last record. -/
theorem keepsLast_of_within {m : Blocks} {s t : State} (h : Within m s t)
    (resolver : m.resolver = false := by rfl) : KeepsLast s t :=
  .inl (congrArg Resolver.last (h.resolver resolver))

theorem publish_last (g : Grant) (s : State) : (publish g s).resolver.last = g := by
  unfold publish
  rw [(steeringPublication_frame g _).resolver rfl, (holdPublication_frame g _).resolver rfl,
    (gridPublication_frame g _).resolver rfl]
  rfl

/-- A change of mode publishes the forced record or none (R87). -/
theorem changeMode_keepsLast (new : GovMode) (cause : ModeCause) (s : State) :
    KeepsLast s (changeMode new cause s) := by
  unfold changeMode
  refine .trans ?_ (keepsLast_of_within (gridModeEvent_frame new _))
  have held : KeepsLast s (holdModeEvent new (setMode new cause s)) :=
    (keepsLast_of_within (setMode_frame new cause s)).trans (keepsLast_of_within (holdModeEvent_frame new _))
  exact .ite (fun _ => .inr (congrArg Grant.mode (publish_last _ _))) fun _ => held

theorem authorityEvent_keepsLast (held : Bool) (s : State) : KeepsLast s (authorityEvent held s) := by
  unfold authorityEvent
  dsimp only
  have seen (f : Governor → Governor) : KeepsLast s (updGovernor f s) := .inl rfl
  split
  · exact (seen _).trans (changeMode_keepsLast _ _ _)
  · exact (seen _).trans (changeMode_keepsLast _ _ _)
  · exact seen _

theorem latch_keepsLast (c : TripCause) (s : State) : KeepsLast s (latch c s) := by
  unfold latch
  refine .ite (fun _ => .refl s) fun _ => ?_
  have record := keepsLast_of_within (latchRecord_frame c s)
  have noticed {n : Notice} := record.trans (keepsLast_of_within (offer_frame n _))
  have posted {p : Prop} [Decidable p] {n : Notice} :
      KeepsLast s (if p then internalPost 0 0 (offer n (latchRecord c s)) else offer n (latchRecord c s)) :=
    .ite (fun _ => noticed.trans (keepsLast_of_within (internalPost_frame 0 0 _))) fun _ => noticed
  exact .ite (fun _ => posted.trans (changeMode_keepsLast _ _ _)) fun _ => posted

/-- A GRID post that follows an event leaves the Effort Resolver alone (R124). -/
theorem gridEvent_keepsLast {effect : State → State} {s : State} (h : KeepsLast s (effect s)) :
    KeepsLast s (gridEvent effect s) :=
  h.trans (keepsLast_of_within (postGrid_frame _ _))

theorem failBank_keepsLast (b : BankId) (cause : FailCause) (why : BankCause) (s : State) :
    KeepsLast s (failBank b cause why s) :=
  .trans (.trans (keepsLast_of_within (updBank_frame b _ s)) (keepsLast_of_within (bankNotice_frame b why _)))
    (latch_keepsLast _ _)

theorem feedbackFall_keepsLast (b : BankId) (s : State) : KeepsLast s (feedbackFall b s) := by
  unfold feedbackFall
  have bank (f : Bank → Bank) (u : State) : KeepsLast u (updBank b f u) :=
    keepsLast_of_within (updBank_frame b f u)
  refine .ite (fun _ => ?_) fun _ => bank _ _
  split
  · exact ((bank _ _).trans (bank _ _)).trans (keepsLast_of_within (closeTest_frame b .feedback _))
  · exact bank _ _
  · exact (bank _ _).trans (failBank_keepsLast _ _ _ _)
  · exact (bank _ _).trans (keepsLast_of_within (enterOpen_frame b .feedback _))
  · exact bank _ _

theorem handshakeExpiry_keepsLast (b : BankId) (s : State) : KeepsLast s (handshakeExpiry b s) := by
  unfold handshakeExpiry
  have stopped (f : Bank → Bank) : KeepsLast s (updBank b f s) := keepsLast_of_within (updBank_frame b f s)
  have failed {f : Bank → Bank} {cause : FailCause} : KeepsLast s (failBank b cause .timeout (updBank b f s)) :=
    (stopped f).trans (failBank_keepsLast _ _ _ _)
  dsimp only
  split
  · exact .ite (fun _ => failed) fun _ => stopped _
  · exact failed
  · exact stopped _
  · exact failed
  · exact stopped _

theorem ladderStep_keepsLast (e : Element) (before : Integrator) (s : State) :
    KeepsLast s (ladderStep e before s) := by
  unfold ladderStep
  have level (l : Level) (dwell : Timer) : KeepsLast s (setLevel e l dwell s) :=
    keepsLast_of_within (setLevel_frame e l dwell s)
  have risen (l : Level) : KeepsLast s (levelNotice e .rise (setLevel e l none s)) :=
    (level l none).trans (keepsLast_of_within (levelNotice_frame e .rise _))
  refine .ite (fun _ => ?_) fun _ => (level _ _).trans (keepsLast_of_within (thermalEffects_frame e before _))
  refine .trans ?_ (keepsLast_of_within (thermalEffects_frame e before _))
  exact .ite (fun _ => (risen _).trans (latch_keepsLast _ _)) fun _ => risen _

theorem overloadUpdate_keepsLast (s : State) : KeepsLast s (overloadUpdate s) := by
  unfold overloadUpdate
  have heated : KeepsLast s (heatAll (updOverload (fun u => { u with timer := startMs 100 }) s)) :=
    (keepsLast_of_within (updOverload_frame _ s)).trans (keepsLast_of_within (heatAll_frame _))
  exact .trans (.trans (.trans (.trans heated (ladderStep_keepsLast _ _ _)) (ladderStep_keepsLast _ _ _))
    (ladderStep_keepsLast _ _ _)) (ladderStep_keepsLast _ _ _)

theorem gateEvent_keepsLast (g : GateResult) (s : State) : KeepsLast s (gateEvent g s) := by
  unfold gateEvent
  have latched {p : Prop} [Decidable p] {c : TripCause} {u : State} (h : KeepsLast s u) :
      KeepsLast s (if p then latch c u else u) :=
    .ite (fun _ => h.trans (latch_keepsLast c u)) fun _ => h
  have recorded (f : OverloadUnit → OverloadUnit) : KeepsLast s (updOverload f s) :=
    keepsLast_of_within (updOverload_frame f s)
  refine latched (latched (.ite (fun _ => ?_) fun _ => .ite (fun _ => ?_) fun _ => recorded _))
  · exact (recorded _).trans (keepsLast_of_within (dumpStart_frame _))
  · exact (recorded _).trans (keepsLast_of_within (dumpEnd_frame _))

theorem gateExpiry_keepsLast (s : State) : KeepsLast s (gateExpiry s) := by
  unfold gateExpiry
  have captured (f : Capture → Capture) : KeepsLast s (updCapture f s) :=
    keepsLast_of_within (updCapture_frame f s)
  exact .ite (fun _ => (captured _).trans (gateEvent_keepsLast _ _)) fun _ => captured _

theorem wheelEdgeInput_keepsLast (w : Wheel) (s : State) : KeepsLast s (wheelEdgeInput w s) := by
  unfold wheelEdgeInput wheelEdgeEvent
  refine .ite (fun _ => ?_) fun _ => .refl s
  have edge (f : WheelChannel → WheelChannel) : KeepsLast s (updWheel w f s) :=
    keepsLast_of_within (updWheel_frame w f s)
  have speed {p : Prop} [Decidable p] {u : State} (h : KeepsLast s u) :
      KeepsLast s (if p then computeSpeed u else u) :=
    .ite (fun _ => h.trans (keepsLast_of_within (computeSpeed_frame u))) fun _ => h
  exact .ite (fun _ => (speed (edge _)).trans (latch_keepsLast _ _)) fun _ => speed (edge _)

theorem changeAuthority_keepsLast (new : AuthRecord) (cause : AuthCause) (s : State) :
    KeepsLast s (changeAuthority new cause s) := by
  unfold changeAuthority
  have recorded {n : Notice} (f : AuthorityUnit → AuthorityUnit) :
      KeepsLast s (offer n (updAuthority f s)) :=
    .trans (.inl rfl : KeepsLast s (updAuthority f s)) (keepsLast_of_within (offer_frame n _))
  have seen {p : Prop} [Decidable p] {u : State} (h : KeepsLast s u) :
      KeepsLast s (if p then u else holdAuthorityEvent u) :=
    .ite (fun _ => h) fun _ => h.trans (keepsLast_of_within (holdAuthorityEvent_frame u))
  exact .ite (fun _ => seen (recorded _)) fun _ => (seen (recorded _)).trans (authorityEvent_keepsLast _ _)

theorem deadlineExpiry_keepsLast (s : State) : KeepsLast s (deadlineExpiry s) := by
  unfold deadlineExpiry
  split
  · exact changeAuthority_keepsLast _ _ _
  · exact .inl rfl
  · exact .inl rfl

theorem protocolRequest_keepsLast (v : State → Verdict) (args : List Byte) (s : State) :
    KeepsLast s (protocolRequest v args s).1 := by
  unfold protocolRequest rule
  split
  · exact changeAuthority_keepsLast _ _ _
  · exact .refl s

theorem claimOwner_keepsLast (p : Port) (args : List Byte) (s : State) :
    KeepsLast s (claimOwner p args s).1 := by
  unfold claimOwner
  split
  · exact .refl s
  · exact protocolRequest_keepsLast _ _ _

theorem afterClears_keepsLast (modeAfter : GovMode) (s : State) : KeepsLast s (afterClears modeAfter s) := by
  unfold afterClears
  have withdrawn {p : Prop} [Decidable p] : KeepsLast s (if p then s else internalWithdraw 0 s) :=
    .ite (fun _ => .refl s) fun _ => keepsLast_of_within (internalWithdraw_frame 0 s)
  have forgotten {p : Prop} [Decidable p] {u : State} (f : Governor → Governor) (h : KeepsLast s u) :
      KeepsLast s (if p then updGovernor f u else u) :=
    .ite (fun _ => h.trans (.inl rfl)) fun _ => h
  exact .ite (fun _ => forgotten _ withdrawn) fun _ =>
    (forgotten _ withdrawn).trans (changeMode_keepsLast _ _ _)

theorem clearTripsOwner_keepsLast (args : List Byte) (s : State) :
    KeepsLast s (clearTripsOwner args s).1 := by
  unfold clearTripsOwner
  split
  · exact .refl s
  · split
    · exact .refl s
    · refine gridEvent_keepsLast ?_
      have cleared (l : List TripCause) (count : Nat) (after : GovMode) :
          Within .ofClear s (l.foldl (fun s c => clearCause count after c s) s) :=
        foldl_within (fun t c h => clearCause_within h rfl) l s (.refl _ s)
      exact (keepsLast_of_within (cleared _ _ _)).trans (afterClears_keepsLast _ _)

/-- The Effort Resolver starts its timer at the commit and publishes nothing (R67). -/
theorem commitResolver_keepsLast (s : State) : KeepsLast s (commitResolver s) := .inl rfl

theorem commitEvent_keepsLast (s : State) : KeepsLast s (commitEvent s) := by
  unfold commitEvent
  refine .trans ?_ (keepsLast_of_within (gridModeEvent_frame .ready _))
  refine .trans ?_ (keepsLast_of_within (commitHold_frame _))
  refine .trans ?_ (keepsLast_of_within (commitOverload_frame _))
  refine .trans ?_ (keepsLast_of_within (commitSteering_frame _))
  refine .trans ?_ (commitResolver_keepsLast _)
  refine .trans ?_ (keepsLast_of_within (commitGrid_frame _))
  refine .trans ?_ (keepsLast_of_within (commitCapture_frame _))
  exact .trans (.inl rfl : KeepsLast s (updProfile _ s)) (keepsLast_of_within (setMode_frame .ready .commit _))

theorem commitOwner_keepsLast (args : List Byte) (s : State) : KeepsLast s (commitOwner args s).1 := by
  unfold commitOwner
  split
  · exact .refl s
  · split
    · exact .refl s
    · split
      · exact .refl s
      · dsimp only
        exact commitEvent_keepsLast s

/-! The commands (R67, R87): of them all the resolution timer's expiry alone publishes a pass. -/

section Commands
variable {s t : State}

theorem keepsLast_of_live {effect : State → State} (own : KeepsLast s (effect s))
    (h : whenLive effect s = .next t) : KeepsLast s t :=
  KeptBy.live (P := KeepsLast s) (fun _ => own) (.refl s) h

theorem keepsLast_of_running (tm : State → Timer) {effect : State → State} (own : KeepsLast s (effect s))
    (h : whenRunning tm effect s = .next t) : KeepsLast s t :=
  KeptBy.running (P := KeepsLast s) (fun _ _ => own) (.refl s) h

theorem keepsLast_of_transaction {p : Port} {early : Bool} {n : Nat} {take : State → State}
    (own : ∀ u, KeepsLast u (take u)) (h : transaction p early n take s = .next t) : KeepsLast s t :=
  keepsLast_of_live (effect := fun s => if early then s else take (clockOut p n s))
    (.ite (fun _ => .refl s) fun _ => (keepsLast_of_within (clockOut_frame p n s)).trans (own _)) h

theorem keepsLast_of_serve {r : Request} {p : Port} {f : Frame} {owner : State → State × Reply}
    (own : ∀ u, KeepsLast u (owner u).1) (h : serve r p f owner s = .next t) : KeepsLast s t := by
  have clocked := keepsLast_of_within (clockOut_frame p (frameBytes f) s)
  have answered {u : State} (reply : Reply) (hu : KeepsLast s u) : KeepsLast s (respond p r.code reply u) :=
    hu.trans (keepsLast_of_within (respond_frame p r.code reply u))
  obtain rfl | ⟨-, -, ⟨a, rfl⟩ | ⟨-, -, rfl⟩⟩ := serve_cases h
  · exact .refl _
  · exact answered _ clocked
  · exact answered _ (clocked.trans (own _))

/-- A reset leaves the NEUTRAL record of a reset (R177). -/
theorem beginReset_keepsLast (cause : ResetCause) (s : State) : KeepsLast s (beginReset cause s) := .inr rfl

theorem shortPulse_keepsLast (s : State) : KeepsLast s (shortPulse s) :=
  .ite (fun _ => beginReset_keepsLast _ _) fun _ => .inl rfl

theorem repeatResponse_keepsLast (p : Port) (s : State) : KeepsLast s (repeatResponse p s) :=
  keepsLast_of_within (updPort_frame p _ s)

/-- In READY and ACTIVE the expiry publishes the record of the pass; else it publishes nothing (R67, R84). -/
theorem resolutionExpiry_last (s : State) :
    KeepsLast s (resolutionExpiry s) ∨
      (s.governor.mode = .ready ∨ s.governor.mode = .active) ∧
        (resolutionExpiry s).resolver.last = passRecord s := by
  unfold resolutionExpiry
  dsimp only
  split
  · exact .inr ⟨‹_›, publish_last _ _⟩
  · exact .inl (.inl rfl)

end Commands

/-- No command but the expiry of the resolution timer publishes a record with a mode. -/
theorem exec_keepsLast {c : Instr} {s t : State} (other : c ≠ .resolutionTimerExpiry)
    (h : exec c s = .next t) : KeepsLast s t := by
  cases c with
  | resolutionTimerExpiry => exact absurd rfl other
  | powerOn => cases h; exact beginReset_keepsLast _ _
  | resetLine pulse =>
    cases h
    cases pulse with
    | full => exact beginReset_keepsLast _ _
    | short => exact shortPulse_keepsLast _
  | resetEnd sfit one two => cases h; exact .ite (fun _ => .inl rfl) fun _ => .refl s
  | nop p f => exact keepsLast_of_transaction (repeatResponse_keepsLast p) h
  | truncated p bytes early =>
    simp only [exec, execTruncated] at h
    split at h
    · exact keepsLast_of_transaction (fun u => keepsLast_of_within (respond_frame _ _ _ u)) h
    · cases h
  | unknownRequest p code f =>
    simp only [exec, execUnknownRequest] at h
    split at h
    · cases h
    · exact keepsLast_of_transaction (fun u => keepsLast_of_within (respond_frame _ _ _ u)) h
  | wheelEdge w => exact keepsLast_of_live (wheelEdgeInput_keepsLast w s) h
  | wheelEdgeTimerExpiry w =>
    exact keepsLast_of_running (fun s => (s.capture.wheels.get w).edgeTimer)
      (keepsLast_of_within (wheelTimerEvent_frame w s)) h
  | angleRisingEdge => exact keepsLast_of_live (keepsLast_of_within (updAngle_frame _ s)) h
  | angleFallingEdge => exact keepsLast_of_live (keepsLast_of_within (updAngle_frame _ s)) h
  | angleEdgeTimerExpiry =>
    exact keepsLast_of_running (fun s => s.capture.angle.edgeTimer)
      (keepsLast_of_within (updAngle_frame angleSilent s)) h
  | lvfEdge => exact keepsLast_of_live (keepsLast_of_within (updCapture_frame _ s)) h
  | linkGateExpiry =>
    exact keepsLast_of_running (fun s => s.capture.link.gateTimer)
      (gateExpiry_keepsLast s) h
  | feedbackRises b => exact keepsLast_of_live (gridEvent_keepsLast (keepsLast_of_within (feedbackRise_frame b s))) h
  | feedbackFalls b => exact keepsLast_of_live (gridEvent_keepsLast (feedbackFall_keepsLast b s)) h
  | holdTimerExpiryOfLimit slot =>
    exact keepsLast_of_running (fun s => limitTimer slot s)
      (keepsLast_of_within (limitExpiry_frame slot s)) h
  | handoverDeadlineExpiry =>
    exact keepsLast_of_running (fun s => s.authority.record.deadline)
      (deadlineExpiry_keepsLast s) h
  | demandLifetimeExpiry x =>
    exact keepsLast_of_running (fun s => (s.authority.demands.get x).lifetime)
      (keepsLast_of_within (demandExpiry_frame x s)) h
  | holdTimerExpiry =>
    exact keepsLast_of_running (fun s => s.hold.ctx.timer)
      (keepsLast_of_within (holdUpdate_frame s)) h
  | overspeedTimerExpiry =>
    exact keepsLast_of_running (fun s => s.hold.brake.overspeedTimer)
      (keepsLast_of_within (overspeedExpiry_frame s)) h
  | noRetardTimerExpiry =>
    exact keepsLast_of_running (fun s => s.hold.brake.noRetardTimer)
      (keepsLast_of_within (noRetardExpiry_frame s)) h
  | handshakeTimerExpiry b =>
    exact keepsLast_of_running (fun s => (bankOf s b).handshake)
      (gridEvent_keepsLast (handshakeExpiry_keepsLast b s)) h
  | periodBoundary b =>
    exact keepsLast_of_running (fun s => (bankOf s b).boundary)
      (gridEvent_keepsLast (keepsLast_of_within (boundaryEvent_frame b s))) h
  | chopperOnTimeEnd b =>
    exact keepsLast_of_running (fun s => (bankOf s b).onTime)
      (keepsLast_of_within (onTimeEnd_frame b s)) h
  | steeringTimerExpiry =>
    exact keepsLast_of_running (fun s => s.steering.timer)
      (keepsLast_of_within (steeringRun_frame s)) h
  | cabStatusLifetimeExpiry =>
    exact keepsLast_of_running (fun s => s.steering.cab.lifetime)
      (keepsLast_of_within (cabExpiry_frame s)) h
  | driveReportLifetimeExpiry =>
    exact keepsLast_of_running (fun s => s.overload.report.lifetime)
      (keepsLast_of_within (reportExpiry_frame s)) h
  | overloadTimerExpiry =>
    exact keepsLast_of_running (fun s => s.overload.timer)
      (gridEvent_keepsLast (overloadUpdate_keepsLast s)) h
  | dwellTimerExpiry e =>
    exact keepsLast_of_running (fun s => (integratorOf s e).dwell)
      (gridEvent_keepsLast (keepsLast_of_within (dwellExpiry_frame e s))) h
  | readRecord p f =>
    exact keepsLast_of_serve (fun u => keepsLast_of_within (readRecordOwner_frame p f.args u)) h
  | readTable p f => exact keepsLast_of_serve (fun u => keepsLast_of_within (readTableOwner_frame f.args u)) h
  | takeNotices p f =>
    exact keepsLast_of_serve (fun u => keepsLast_of_within (takeNoticesOwner_frame p f.args u)) h
  | setNoticeMask p f =>
    exact keepsLast_of_serve (fun u => keepsLast_of_within (setMaskOwner_frame p f.args u)) h
  | setNoticeThreshold p f =>
    exact keepsLast_of_serve (fun u => keepsLast_of_within (setThresholdOwner_frame p f.args u)) h
  | postLimit p f => exact keepsLast_of_serve (fun u => keepsLast_of_within (postOwner_frame p f.args u)) h
  | withdrawLimit p f =>
    exact keepsLast_of_serve (fun u => keepsLast_of_within (withdrawOwner_frame p f.args u)) h
  | claim p f => exact keepsLast_of_serve (fun u => claimOwner_keepsLast p f.args u) h
  | release p f => exact keepsLast_of_serve (fun u => protocolRequest_keepsLast (releaseVerdict p) f.args u) h
  | yieldAuthority p f =>
    exact keepsLast_of_serve (fun u => protocolRequest_keepsLast yieldVerdict f.args u) h
  | withdrawBid p f =>
    exact keepsLast_of_serve (fun u => protocolRequest_keepsLast withdrawBidVerdict f.args u) h
  | submitDemand p f =>
    exact keepsLast_of_serve (fun u => keepsLast_of_within (submitOwner_frame p f.args u)) h
  | reportCab p f => exact keepsLast_of_serve (fun u => keepsLast_of_within (reportCabOwner_frame f.args u)) h
  | reportDrive p f =>
    exact keepsLast_of_serve (fun u => keepsLast_of_within (reportDriveOwner_frame f.args u)) h
  | clearTrips p f => exact keepsLast_of_serve (fun u => clearTripsOwner_keepsLast f.args u) h
  | profileWrite p f =>
    exact keepsLast_of_serve (fun u => keepsLast_of_within (profileWriteOwner_frame f.args u)) h
  | commitProfile p f => exact keepsLast_of_serve (fun u => commitOwner_keepsLast f.args u) h

/-- What a command makes of the last published record: it keeps it, or publishes the record of a pass. -/
theorem exec_last {c : Instr} {s t : State} (h : exec c s = .next t) :
    KeepsLast s t ∨
      (s.governor.mode = .ready ∨ s.governor.mode = .active) ∧ t.resolver.last = passRecord s := by
  by_cases pass : c = .resolutionTimerExpiry
  · subst pass
    obtain rfl | ⟨-, -, rfl⟩ :=
      whenRunning_cases (tm := fun s => s.resolver.timer) (effect := resolutionExpiry) h
    · exact .inl (.refl _)
    · exact resolutionExpiry_last s
  · exact .inl (exec_keepsLast pass h)

/-- What a step makes of the last published record: it keeps it, or publishes the record of a pass. -/
theorem step_last {s t : State} (h : step s = .next t) :
    KeepsLast s t ∨
      (s.governor.mode = .ready ∨ s.governor.mode = .active) ∧ t.resolver.last = passRecord s := by
  unfold step at h
  split at h
  · have last := exec_last h
    exact last
  · split at h
    · cases h; exact .inl (.refl _)
    · unfold clockEvent at h
      split at h
      · rename_i event
        split at event <;> cases event
        cases h
        exact .inl (.inl rfl)
      · rename_i event
        split at event <;> cases event
        · exact exec_last h
        · have last := exec_last h
          exact last

/-- A pass is run from commit on only (R67, R169). -/
theorem committed_of_mode {s : State} (modes : ModeInv s)
    (runs : s.governor.mode = .ready ∨ s.governor.mode = .active) : s.profile.committed = true := by
  have notConfig : s.governor.mode ≠ .config := by obtain h | h := runs <;> simp [h]
  exact eq_true_of_ne_false (mt modes.config.mpr notConfig)

/-- Settles O29: the shares' parts of the power bound the two caps and sum to the power; GRID in slot 1 keeps
RETARD_POWER from being OPEN; and a record with a mode that a step publishes is that of a pass. -/
theorem retardRecordKeepsThePowerLaw : Obligations.RetardRecordKeepsThePowerLaw := by
  refine ⟨fun s b shares power retard => ⟨fun w => ?_, passRecord_power_le shares power retard⟩,
    fun s => retardPower_isSome, fun s t modes shares table grid next published retard => ?_⟩
  · have cap := passRecord_retard_cap power retard w
    cases w <;> exact cap
  · obtain kept | ⟨runs, pass⟩ := step_last next
    · obtain same | neutral := kept
      · exact absurd same published
      · exact absurd (retard.symm.trans neutral) (by decide)
    · obtain ⟨b, power⟩ := Option.isSome_iff_exists.mp
        (retardPower_isSome table grid (committed_of_mode modes runs))
      rw [pass] at retard ⊢
      exact ⟨b, power, passRecord_power_le shares power retard⟩

end Sys2Proof.Proofs

/-! ### Duty from a published record: the split of the power and each bank's pending duty (R125, R126) -/

namespace Sys2Proof.Proofs

open Sys2Proof.Machine Sys2Proof.Safety

/-! The power to dissipate, split between the banks (R125). -/

section Split
variable (p : Nat) {a1 a2 : Nat}

theorem splitPower_both (one : 0 < a1) (two : 0 < a2) :
    splitPower p a1 a2 = ⟨p * a1 / (a1 + a2), p - p * a1 / (a1 + a2)⟩ := by
  simp [splitPower, one, two]

theorem splitPower_one_alone (one : 0 < a1) : splitPower p a1 0 = ⟨p, 0⟩ := by
  simp [splitPower, one]

theorem splitPower_two_alone (two : 0 < a2) : splitPower p 0 a2 = ⟨0, p⟩ := by
  simp [splitPower, two]

theorem splitPower_neither : splitPower p 0 0 = ⟨0, 0⟩ := rfl

/-- Where both banks are available nothing of the power is lost: bank 1's share is at most the power. -/
theorem splitPower_sum (one : 0 < a1) (two : 0 < a2) :
    (splitPower p a1 a2).one + (splitPower p a1 a2).two = p := by
  have within : p * a1 / (a1 + a2) ≤ p :=
    Nat.div_le_of_le_mul (Nat.mul_comm p a1 ▸ Nat.mul_le_mul_right p (Nat.le_add_right a1 a2))
  rw [splitPower_both p one two]
  exact Nat.add_sub_cancel' within

theorem splitPower_one_unavailable (a2 : Nat) : (splitPower p 0 a2).one = 0 := by
  obtain rfl | two := Nat.eq_zero_or_pos a2
  · rw [splitPower_neither]
  · rw [splitPower_two_alone p two]

theorem splitPower_two_unavailable (a1 : Nat) : (splitPower p a1 0).two = 0 := by
  obtain rfl | one := Nat.eq_zero_or_pos a1
  · rw [splitPower_neither]
  · rw [splitPower_one_alone p one]

theorem splitPower_no_power (a1 a2 : Nat) : splitPower 0 a1 a2 = ⟨0, 0⟩ := by
  simp [splitPower]

end Split

/-- A record that is not a retard record carries no retard power (R125). -/
theorem retardPowerOf_of_ne_retard {g : Grant} (notRetard : g.mode ≠ .retard) : retardPowerOf g = 0 :=
  if_neg notRetard

/-! The duty that takes a share at a link voltage (R126). -/

theorem ceilDiv_le_iff {a b n : Nat} (pos : 0 < b) : ceilDiv a b ≤ n ↔ a ≤ n * b := by
  rw [ceilDiv, Nat.div_le_iff_le_mul pos]
  omega

section Duty
variable {v : Nat} (p r : Nat)

theorem dutyFor_of_low (low : v < 100) : dutyFor v p r = 0 := if_pos low

theorem dutyFor_of_enough (enough : 100 ≤ v) :
    dutyFor v p r = min 1000 (ceilDiv (p * 1000 * r) (v * v)) := if_neg (Nat.not_lt.mpr enough)

/-- From 100 V on a duty takes the power exactly when it is not below the rounded-up quotient. -/
theorem ceilDiv_square_le_iff (enough : 100 ≤ v) {need n : Nat} :
    ceilDiv need (v * v) ≤ n ↔ need ≤ n * (v * v) := by
  have charged : 0 < v := by omega
  exact ceilDiv_le_iff (Nat.mul_pos charged charged)

theorem dutyFor_no_power : dutyFor v 0 r = 0 := by
  obtain low | enough := Nat.lt_or_ge v 100
  · exact dutyFor_of_low 0 r low
  · have nothing : ceilDiv (0 * 1000 * r) (v * v) ≤ 0 := (ceilDiv_square_le_iff enough).mpr (by simp)
    rw [dutyFor_of_enough 0 r enough, Nat.le_zero.mp nothing, Nat.min_zero]

/-- At 100 V and above the duty is at most 1000, takes the power unless it is 1000, and no smaller one
takes it. -/
theorem dutyFor_least (enough : 100 ≤ v) :
    dutyFor v p r ≤ 1000 ∧ (dutyFor v p r = 1000 ∨ p * 1000 * r ≤ dutyFor v p r * (v * v)) ∧
      ∀ n, n < dutyFor v p r → n * (v * v) < p * 1000 * r := by
  rw [dutyFor_of_enough p r enough]
  refine ⟨Nat.min_le_left _ _, ?_, fun n smaller => Nat.lt_of_not_le fun takes => ?_⟩
  · obtain capped | fits := Nat.le_total 1000 (ceilDiv (p * 1000 * r) (v * v))
    · exact .inl (Nat.min_eq_left capped)
    · rw [Nat.min_eq_right fits]
      exact .inr ((ceilDiv_square_le_iff enough).mp (Nat.le_refl _))
  · have notSmaller := (ceilDiv_square_le_iff enough).mpr takes
    omega

end Duty

/-! What a publication writes: the unit's own fields, and each bank's share and pending duty. -/

/-- The shares of a record in a state (R125). -/
def publishedShares (g : Grant) (s : State) : PerBank Nat :=
  splitPower (retardPowerOf g - auxKw s) (bankOf s .one).avail (bankOf s .two).avail

section Publication
variable (g : Grant) (s : State)

/-- A publication writes a bank's share and pending duty; the available power is worked out again (R123). -/
theorem gridPublication_bank (b : BankId) :
    bankOf (gridPublication g s) b =
      { bankOf s b with
        share := (publishedShares g s).get b
        dutyPending := dutyFor s.capture.link.v ((publishedShares g s).get b) (resistance s b)
        avail := availOf s b (bankOf s b) } := by
  cases b <;> rfl

theorem gridPublication_share (b : BankId) :
    (bankOf (gridPublication g s) b).share = (publishedShares g s).get b := by
  rw [gridPublication_bank]

theorem gridPublication_duty (b : BankId) :
    (bankOf (gridPublication g s) b).dutyPending =
      dutyFor s.capture.link.v (bankOf (gridPublication g s) b).share (resistance s b) := by
  rw [gridPublication_bank]

theorem gridPublication_bank_frame (b : BankId) :
    bankOf (gridPublication g s) b =
      { bankOf s b with
        share := (bankOf (gridPublication g s) b).share
        dutyPending := (bankOf (gridPublication g s) b).dutyPending
        avail := availOf s b (bankOf s b) } := by
  rw [gridPublication_bank]

/-- Outside the banks a publication writes the record's pass and mode, the powers and the link voltage, and
nothing else. -/
theorem gridPublication_eq :
    gridPublication g s = s.withGrid { s.grid with
      banks := (gridPublication g s).grid.banks
      lastPass := g.pass, lastMode := g.mode, pReq := retardPowerOf g
      pDis := retardPowerOf g - auxKw s, vUsed := s.capture.link.v } := rfl

variable {g s}

theorem publishedShares_of_unavailable {b : BankId} (idle : (bankOf s b).avail = 0) :
    (publishedShares g s).get b = 0 := by
  unfold publishedShares
  cases b with
  | one => rw [idle]; exact splitPower_one_unavailable _ _
  | two => rw [idle]; exact splitPower_two_unavailable _ _

theorem publishedShares_of_ne_retard (notRetard : g.mode ≠ .retard) (b : BankId) :
    (publishedShares g s).get b = 0 := by
  rw [publishedShares, retardPowerOf_of_ne_retard notRetard, Nat.zero_sub, splitPower_no_power]
  cases b <;> rfl

/-- A bank without a share has no duty. -/
theorem gridPublication_of_no_share {b : BankId} (idle : (publishedShares g s).get b = 0) :
    (bankOf (gridPublication g s) b).share = 0 ∧ (bankOf (gridPublication g s) b).dutyPending = 0 := by
  have share : (bankOf (gridPublication g s) b).share = 0 := (gridPublication_share g s b).trans idle
  exact ⟨share, by rw [gridPublication_duty, share, dutyFor_no_power]⟩

end Publication

/-- Both banks of a state that meets the banks' invariant are in order. -/
theorem bankOk_of_gridInv {s : State} (grid : GridInv s) (b : BankId) : BankOk s b (bankOf s b) := by
  cases b
  · exact grid.one
  · exact grid.two

/-- Settles O38: the shares are `splitPower`'s, each bank's duty is `dutyFor` of its share, and the available
power worked out again is the one that stood where the banks' invariant holds. -/
theorem publicationWritesThePendingDuty : Obligations.PublicationWritesThePendingDuty := by
  intro g s t v pReq pDis a1 a2
  have share (b : BankId) : (bankOf t b).share = (splitPower pDis a1 a2).get b :=
    gridPublication_share g s b
  have duty (b : BankId) : (bankOf t b).dutyPending = dutyFor v (bankOf t b).share (resistance s b) :=
    gridPublication_duty g s b
  have frame (b : BankId) := gridPublication_bank_frame g s b
  refine ⟨rfl, rfl, rfl, rfl, rfl, fun one two => ?_, fun one idle => ?_, fun idle two => ?_,
    fun b => ⟨fun idle => gridPublication_of_no_share (publishedShares_of_unavailable idle),
      fun notRetard => (gridPublication_of_no_share (publishedShares_of_ne_retard notRetard b)).2,
      fun low => (duty b).trans (dutyFor_of_low _ _ low), fun enough => ?_, frame b, fun grid => ?_⟩,
    gridPublication_eq g s⟩
  · rw [share, share]
    exact ⟨congrArg PerBank.one (splitPower_both pDis one two), splitPower_sum pDis one two⟩
  · rw [share, idle, splitPower_one_alone pDis one]
    rfl
  · rw [share, idle, splitPower_two_alone pDis two]
    rfl
  · rw [duty b]
    exact dutyFor_least _ _ enough
  · have stands : availOf s b (bankOf s b) = (bankOf s b).avail := (bankOk_of_gridInv grid b).avail.symm
    have kept := frame b
    rwa [stands] at kept

end Sys2Proof.Proofs

/-! ### Link protection: the gates counted, the dump at the banks, the link trips (R127, R163, R164) -/

namespace Sys2Proof.Proofs

open Sys2Proof.Machine Sys2Proof.Safety

/-- An operation that keeps the ports' answers leaves aside what no event touches. -/
theorem aside_of_within {m : Blocks} {s t : State} (h : Within m s t) (answers : m.answers = false) :
    Aside s t :=
  ⟨h.pending, h.resetting, h.draws, h.strap, h.answers answers⟩

/-! The trip set after a latch (R172). -/

theorem mem_addCause {x c : TripCause} {set : List TripCause} : x ∈ addCause c set ↔ x ∈ set ∨ x = c := by
  have listed : x ∈ allCauses := by cases x <;> decide
  simp [addCause, listed, or_comm]

/-- Of a latch's steps only the first, the cause's own record, writes the trip set. -/
theorem latch_trips_of_absent {c : TripCause} {s : State} (absent : c ∉ s.governor.trips) :
    (latch c s).governor.trips = addCause c s.governor.trips := by
  have later : Within .ofMode (latchRecord c s) (latch c s) := by
    rw [latch, if_neg (by simpa using absent)]
    have noticed {n : Notice} : Within .ofMode (latchRecord c s) (offer n (latchRecord c s)) :=
      offer_within (.refl _ _) rfl
    have posted {p : Prop} [Decidable p] {n : Notice} : Within .ofMode (latchRecord c s)
        (if p then internalPost 0 0 (offer n (latchRecord c s)) else offer n (latchRecord c s)) := by
      split
      · exact internalPost_within noticed rfl
      · exact noticed
    dsimp only
    split
    · exact changeMode_within posted rfl
    · exact posted
  exact later.trips rfl

theorem mem_latch_trips {x c : TripCause} {s : State} :
    x ∈ (latch c s).governor.trips ↔ x ∈ s.governor.trips ∨ x = c := by
  by_cases present : c ∈ s.governor.trips
  · have unchanged : latch c s = s := if_pos (by simpa using present)
    rw [unchanged]
    exact ⟨.inl, fun h => h.elim id fun same => same ▸ present⟩
  · rw [latch_trips_of_absent present, mem_addCause]

/-! A gate's effect on the link protection record (R163, R164). -/

theorem dumpAfter_good_off_iff {limit v : Nat} : dumpAfter limit false (.good v) = true ↔ limit ≤ v := by
  simp [dumpAfter]

theorem dumpAfter_good_on_iff {limit v : Nat} :
    dumpAfter limit true (.good v) = false ↔ (v : Int) < (limit : Int) - 50 := by
  simp only [dumpAfter, if_true, decide_eq_false_iff_not]
  omega

theorem overRunAfter_good_of_le {limit run v : Nat} (high : limit ≤ v) :
    overRunAfter limit run (.good v) = min 5 (run + 1) := if_pos high

theorem overRunAfter_good_of_lt {limit run v : Nat} (low : v < limit) :
    overRunAfter limit run (.good v) = 0 := if_neg (Nat.not_le_of_lt low)

/-- The link protection record after a gate (R163, R164). -/
def linkAfter (g : GateResult) (s : State) : LinkProtection where
  dump := dumpAfter (vDump s) s.overload.link.dump g
  overRun := overRunAfter (vTrip s) s.overload.link.overRun g
  lostRun := lostRunAfter s.overload.link.lostRun g
  lastGate := g

/-- The cause a gate hands to Governor Control: that of the run which has come to its top (R164). -/
def gateCause (k k' : LinkProtection) : Option TripCause :=
  if k.overRun = 4 ∧ k'.overRun = 5 then some .linkOvervoltage
  else if k.lostRun = 1 ∧ k'.lostRun = 2 then some .linkSenseLost
  else none

/-- A gate is good or sense-lost, so at most one of the two runs comes to its top. -/
theorem one_run_grows (g : GateResult) (s : State) :
    (linkAfter g s).overRun = 0 ∨ (linkAfter g s).lostRun = 0 := by
  cases g
  · exact .inr rfl
  · exact .inl rfl

theorem gateCause_eq_overvoltage_iff {k k' : LinkProtection} :
    gateCause k k' = some .linkOvervoltage ↔ k.overRun = 4 ∧ k'.overRun = 5 := by
  unfold gateCause
  split
  · simp [*]
  · split <;> simp [*]

theorem gateCause_eq_senseLost_iff {k k' : LinkProtection} (one : k'.overRun = 0 ∨ k'.lostRun = 0) :
    gateCause k k' = some .linkSenseLost ↔ k.lostRun = 1 ∧ k'.lostRun = 2 := by
  unfold gateCause
  split
  · exact ⟨nofun, fun lost => by omega⟩
  · split <;> simp [*]

/-- A latch of a cause, where there is one. -/
def latchAny (c : Option TripCause) (s : State) : State := c.elim s (latch · s)

theorem latchAny_gateCause (k k' : LinkProtection) (u : State) :
    latchAny (gateCause k k') u =
      if k.overRun = 4 ∧ k'.overRun = 5 then latch .linkOvervoltage u
      else if k.lostRun = 1 ∧ k'.lostRun = 2 then latch .linkSenseLost u else u := by
  rw [gateCause, apply_ite (latchAny · u), apply_ite (latchAny · u)]
  rfl

theorem latchAny_frame (c : Option TripCause) (s : State) : Within .ofLatch s (latchAny c s) := by
  cases c
  · exact .refl _ _
  · exact latch_frame _ _

theorem mem_latchAny_trips {x : TripCause} {c : Option TripCause} {s : State} :
    x ∈ (latchAny c s).governor.trips ↔ x ∈ s.governor.trips ∨ c = some x := by
  cases c with
  | none => simp [latchAny]
  | some c => rw [Option.some.injEq, eq_comm]; exact mem_latch_trips

/-! The dump at the banks (R127). -/

/-- The dump taken from one setting to another. -/
def dumpSwitched (was now : Bool) (s : State) : State :=
  if now ∧ ¬ was then dumpStart s else if was ∧ ¬ now then dumpEnd s else s

theorem dumpSwitched_withOverload (was now : Bool) (s : State) (x : OverloadUnit) :
    dumpSwitched was now (s.withOverload x) = (dumpSwitched was now s).withOverload x := by
  cases was <;> cases now <;> rfl

theorem dumpSwitched_dumpOn (was now : Bool) (s : State) :
    (dumpSwitched was now s).grid.dumpOn = if now = was then s.grid.dumpOn else now := by
  cases was <;> cases now <;> rfl

theorem dumpSwitched_frame (was now : Bool) (s : State) : Within .onlyDump s (dumpSwitched was now s) := by
  unfold dumpSwitched
  split
  · exact dumpStart_frame s
  · split
    · exact dumpEnd_frame s
    · exact .refl _ _

/-- A bank whose contactor and level a change leaves alone keeps the available power it has (R123). -/
theorem with_avail_of_bankOk {s : State} {b : BankId} {k k' : Bank} (ok : BankOk s b k)
    (kept : availOf s b k' = availOf s b k ∧ k'.avail = k.avail) :
    { k' with avail := availOf s b k' } = k' := by
  obtain ⟨power, avail⟩ := kept
  rw [power, ← ok.avail, ← avail]

theorem dumpIfClosed_avail (s : State) (b : BankId) (k : Bank) :
    availOf s b (dumpIfClosed k) = availOf s b k ∧ (dumpIfClosed k).avail = k.avail := by
  unfold dumpIfClosed
  split <;> exact ⟨rfl, rfl⟩

theorem dumpStart_of_gridInv {s : State} (grid : GridInv s) :
    dumpStart s = s.withGrid { s.grid with
      dumpOn := true, banks := ⟨dumpIfClosed s.grid.banks.one, dumpIfClosed s.grid.banks.two⟩ } := by
  have one := with_avail_of_bankOk grid.one (dumpIfClosed_avail s .one _)
  have two := with_avail_of_bankOk grid.two (dumpIfClosed_avail s .two _)
  calc dumpStart s
    _ = s.withGrid { s.grid with
          dumpOn := true
          banks := ⟨{ dumpIfClosed s.grid.banks.one with
                      avail := availOf s .one (dumpIfClosed s.grid.banks.one) },
                    { dumpIfClosed s.grid.banks.two with
                      avail := availOf s .two (dumpIfClosed s.grid.banks.two) }⟩ } := rfl
    _ = _ := by rw [one, two]

theorem dumpEnd_of_gridInv {s : State} (grid : GridInv s) :
    dumpEnd s = s.withGrid { s.grid with
      dumpOn := false
      banks := ⟨{ s.grid.banks.one with dump := false }, { s.grid.banks.two with dump := false }⟩ } := by
  calc dumpEnd s
    _ = s.withGrid { s.grid with
          dumpOn := false
          banks := ⟨{ s.grid.banks.one with dump := false, avail := availOf s .one s.grid.banks.one },
                    { s.grid.banks.two with dump := false, avail := availOf s .two s.grid.banks.two }⟩ } := rfl
    _ = _ := by rw [← grid.one.avail, ← grid.two.avail]

/-! A gate event as a whole: the dump moved and the record written, then the latch (R163, R164). -/

/-- A gate event before its latch. -/
def gateRecorded (g : GateResult) (s : State) : State :=
  (dumpSwitched s.overload.link.dump (linkAfter g s).dump s).withOverload
    { s.overload with link := linkAfter g s }

theorem gateEvent_eq_latchAny (g : GateResult) (s : State) :
    gateEvent g s = latchAny (gateCause s.overload.link (linkAfter g s)) (gateRecorded g s) := by
  have switched (was now : Bool) (u : State) :
      (if now && !was then dumpStart u else if !now && was then dumpEnd u else u) =
        dumpSwitched was now u := by
    cases was <;> cases now <;> rfl
  rw [gateRecorded, ← dumpSwitched_withOverload, ← switched, latchAny_gateCause]
  unfold gateEvent
  cases g with
  | good v => simp [linkAfter, lostRunAfter, updOverload, and_comm]
  | senseLost => simp [linkAfter, overRunAfter, updOverload, and_comm]

theorem gateEvent_overload (g : GateResult) (s : State) :
    (gateEvent g s).overload = { s.overload with link := linkAfter g s } := by
  rw [gateEvent_eq_latchAny]
  exact (latchAny_frame _ _).overload rfl

theorem gateEvent_dumpOn (g : GateResult) (s : State) :
    (gateEvent g s).grid.dumpOn =
      if (linkAfter g s).dump = s.overload.link.dump then s.grid.dumpOn else (linkAfter g s).dump := by
  rw [gateEvent_eq_latchAny, ← dumpSwitched_dumpOn]
  exact (latchAny_frame _ _).dumpOn rfl

theorem mem_gateEvent_trips {x : TripCause} {g : GateResult} {s : State} :
    x ∈ (gateEvent g s).governor.trips ↔
      x ∈ s.governor.trips ∨ gateCause s.overload.link (linkAfter g s) = some x := by
  have before : (gateRecorded g s).governor.trips = s.governor.trips :=
    (dumpSwitched_frame _ _ _).trips rfl
  rw [gateEvent_eq_latchAny, mem_latchAny_trips, before]

/-- Settles O46: a gate event is the dump moved, the record `linkAfter` written and the cause `gateCause` of
the run at its top latched, and each clause is read off that form. -/
theorem linkProtectionCountsItsGates : Obligations.LinkProtectionCountsItsGates := by
  refine ⟨fun g s => ?_, fun s grid => ⟨dumpStart_of_gridInv grid, dumpEnd_of_gridInv grid⟩⟩
  intro k t k'
  have overload : t.overload = { s.overload with link := linkAfter g s } := gateEvent_overload g s
  have link : k' = linkAfter g s := congrArg OverloadUnit.link overload
  have dumpOn : t.grid.dumpOn = if k'.dump = k.dump then s.grid.dumpOn else k'.dump :=
    link ▸ gateEvent_dumpOn g s
  have frame : Within .ofGate s t := gateEvent_frame g s
  refine ⟨?lastGate, ?good, ?senseLost, ?overvoltage, ?lost, ?starts, ?ends, ?stays, link ▸ overload,
    frame.capture rfl, frame.authority rfl, frame.profile rfl, aside_of_within frame rfl, ?whole⟩
  case lastGate => rw [link]; rfl
  case good =>
    rintro v rfl
    rw [link]
    refine ⟨fun off => ?_, fun on => ?_, overRunAfter_good_of_le, overRunAfter_good_of_lt, rfl⟩
    · have := dumpAfter_good_off_iff (limit := vDump s) (v := v)
      rwa [← off] at this
    · have := dumpAfter_good_on_iff (limit := vDump s) (v := v)
      rwa [← on] at this
  case senseLost => rintro rfl; rw [link]; exact ⟨rfl, rfl, rfl⟩
  case overvoltage => rw [link, ← gateCause_eq_overvoltage_iff]; exact mem_gateEvent_trips
  case lost => rw [link, ← gateCause_eq_senseLost_iff (one_run_grows g s)]; exact mem_gateEvent_trips
  case starts => intro now was; simp [dumpOn, now, was]
  case ends => intro now was; simp [dumpOn, now, was]
  case stays => intro same; rw [dumpOn, if_pos same]
  case whole =>
    have whole : t = latchAny (gateCause k k') ((dumpSwitched k.dump k'.dump s).withOverload
        { s.overload with link := k' }) := link ▸ gateEvent_eq_latchAny g s
    rw [whole, latchAny_gateCause]
    rfl

end Sys2Proof.Proofs

/-! ### TAKE NOTICES: what one port's transaction changes, and the oldest entries removed (R188, R194, R195) -/

namespace Sys2Proof.Proofs

open Sys2Proof.Machine Sys2Proof.Safety

/-! A change of one port's record. -/

/-- One port's record has changed, and nothing else. -/
structure OnlyPort (p : Port) (s t : State) : Prop where
  blocks : t = s.withPorts t.ports
  strap : t.ports.strap = s.ports.strap
  others : ∀ q, q ≠ p → t.ports.recs.get q = s.ports.recs.get q

section OnePort
variable {p : Port} {s t u : State}

theorem OnlyPort.trans (first : OnlyPort p s t) (second : OnlyPort p t u) : OnlyPort p s u where
  blocks := by rw [second.blocks, first.blocks]; rfl
  strap := second.strap.trans first.strap
  others q other := (second.others q other).trans (first.others q other)

/-- A change of a port's record that keeps its mask and threshold is one that a request may make. -/
theorem OnlyPort.asked (h : OnlyPort p s t)
    (mask : (t.ports.recs.get p).mask = (s.ports.recs.get p).mask)
    (threshold : (t.ports.recs.get p).threshold = (s.ports.recs.get p).threshold) : Asked p s t where
  pending := by rw [h.blocks, State.withPorts_pending]
  resetting := by rw [h.blocks, State.withPorts_resetting]
  draws := by rw [h.blocks, State.withPorts_draws]
  strap := h.strap
  settings q := by
    by_cases own : q = p
    · subst own; exact ⟨mask, threshold⟩
    · rw [h.others q own]; exact ⟨rfl, rfl⟩
  others q other := by rw [h.others q other]; exact ⟨rfl, rfl⟩

variable (p s)

theorem updPort_onlyPort (f : PortRecord → PortRecord) : OnlyPort p s (updPort p f s) where
  blocks := rfl
  strap := rfl
  others _ other := PerPort.get_set_of_ne _ other _

theorem clockOut_onlyPort (n : Nat) : OnlyPort p s (clockOut p n s) := updPort_onlyPort ..

theorem respond_onlyPort (echo : Byte) (reply : Reply) : OnlyPort p s (respond p echo reply s) :=
  updPort_onlyPort ..

@[simp] theorem updPort_own (f : PortRecord → PortRecord) :
    (updPort p f s).ports.recs.get p = f (s.ports.recs.get p) :=
  PerPort.get_set _ _ _

theorem clockOut_own (n : Nat) :
    (clockOut p n s).ports.recs.get p =
      { s.ports.recs.get p with sdo := clocked (s.ports.recs.get p).response n } :=
  updPort_own _ _ _

theorem respond_own (echo : Byte) (reply : Reply) :
    (respond p echo reply s).ports.recs.get p =
      { s.ports.recs.get p with
        response :=
          { status := statusByte s p false reply.clamped
            echo := echo
            result := byte1 reply.answer.code ++ reply.results } } :=
  updPort_own _ _ _

/-! The answer of a taken request (R188, R190, R196). -/

/-- The flag of weight 64 is bit 6 of a sum whose other parts are below it, or weigh 128. -/
theorem testBit_six_of_weights {low : Nat} (small : low < 64) (flag : Bool) :
    (low + (if flag then 64 else 0) + 128).testBit 6 = flag := by
  rw [Nat.testBit_eq_decide_div_mod_eq]
  cases flag with
  | false => exact decide_eq_false (by simp only [Bool.false_eq_true, if_false]; omega)
  | true => exact decide_eq_true (by simp only [if_true]; omega)

theorem ite_le_add (c : Bool) (m n : Nat) : (if c then m else n) ≤ m + n := by
  cases c
  · exact Nat.le_add_left n m
  · exact Nat.le_add_right m n

/-- Bit 6 of a status byte is CLAMPED: the fields below it sum to at most 63 (R190, R196). -/
theorem statusByte_clamped (repeated clamped : Bool) :
    (statusByte s p repeated clamped).getLsbD 6 = clamped := by
  have mode : s.governor.mode.code ≤ 3 := by cases s.governor.mode <;> decide
  have holder := ite_le_add (holderIsYou s p) 4 0
  have pending := ite_le_add (s.ports.recs.get p).queue.isEmpty 0 8
  have overflow := ite_le_add (s.ports.recs.get p).overflow 16 0
  have again := ite_le_add repeated 32 0
  rw [statusByte, BitVec.getLsbD_ofNat]
  exact testBit_six_of_weights (by omega) clamped

theorem clampedFlag_respond (echo : Byte) (reply : Reply) :
    clampedFlag (respond p echo reply s) p = reply.clamped := by
  rw [clampedFlag, respond_own]
  exact statusByte_clamped p s false reply.clamped

theorem answers_respond (r : Request) (reply : Reply) :
    Answers r p (BitVec.ofNat 8 reply.answer.code :: reply.results) (respond p r.code reply s) := by
  rw [Answers, respond_own]
  exact ⟨rfl, rfl⟩

/-- An answer whose owner changed nothing leaves its port's queue, settings and line as they were. -/
theorem respond_clockOut_onlyAnswered (n : Nat) (echo : Byte) (reply : Reply) :
    OnlyAnswered p s (respond p echo reply (clockOut p n s)) := by
  have only : OnlyPort p s (respond p echo reply (clockOut p n s)) :=
    (clockOut_onlyPort p s n).trans (respond_onlyPort ..)
  refine ⟨only.blocks, only.others, only.strap, ?_⟩
  rw [respond_own, clockOut_own]

variable {p s}

theorem serve_of_taken {r : Request} {f : Frame} {owner : State → State × Reply} (taken : Taken r p f s) :
    serve r p f owner s = .next (respond p r.code (owner (clockOut p (frameBytes f) s)).2
      (owner (clockOut p (frameBytes f) s)).1) :=
  serve_taken taken.live taken.current taken.fitted taken.allowed

/-- A taken request that its owner refuses is answered with the refusal's code, and nothing else happens. -/
theorem serve_refused {r : Request} {f : Frame} {owner : State → State × Reply} {a : Answer}
    (taken : Taken r p f s) (refuses : ∀ u, owner u = (u, refuse a)) :
    ∃ t, serve r p f owner s = .next t ∧ OnlyAnswered p s t ∧ Answers r p [BitVec.ofNat 8 a.code] t := by
  refine ⟨_, serve_of_taken taken, ?_⟩
  rw [refuses]
  exact ⟨respond_clockOut_onlyAnswered .., answers_respond ..⟩

end OnePort

/-! The notice line, and a record with its oldest entries gone (R194, R195). -/

theorem noticeLine_iff {strap : Strap} {p : Port} {r : PortRecord} :
    noticeLine strap p r = true ↔
      r.threshold ≤ r.queue.length ∧ ¬ (p = .s ∧ strap = .notFitted) := by
  simp only [noticeLine, Bool.and_eq_true, decide_eq_true_eq, Bool.not_eq_eq_eq_not, Bool.not_true,
    ← Bool.not_eq_true, beq_iff_eq]

section Oldest
variable (count : Nat) (strap : Strap) (p : Port) (r : PortRecord)

theorem takeOldest_overflow_iff :
    (takeOldest count strap p r).overflow = true ↔ r.overflow = true ∧ count < r.queue.length := by
  simp only [takeOldest, evalNoticeLine, Bool.and_eq_true, Bool.not_eq_eq_eq_not, Bool.not_true,
    List.isEmpty_eq_false_iff, ne_eq, List.drop_eq_nil_iff, Nat.not_le]

theorem takeOldest_lineActive_iff :
    (takeOldest count strap p r).lineActive = true ↔
      r.threshold ≤ r.queue.length - count ∧ ¬ (p = .s ∧ strap = .notFitted) := by
  have line := noticeLine_iff (strap := strap) (p := p)
    (r := { r with queue := r.queue.drop count, overflow := r.overflow && !(r.queue.drop count).isEmpty })
  rwa [List.length_drop] at line

end Oldest

/-- At least one entry is asked for, so that nothing is taken only where the queue is empty. -/
theorem takenBytes_take {count : Nat} (atLeastOne : 1 ≤ count) (queue : List Notice) :
    takenBytes (queue.take count) =
      if queue = [] then List.replicate 10 0x00 else ((queue.take count).map Notice.wire).flatten := by
  have nothing : queue.take count = [] ↔ queue = [] := by
    rw [List.take_eq_nil_iff]
    exact or_iff_right (Nat.ne_of_gt atLeastOne)
  simp only [takenBytes, emptyEntry, List.isEmpty_iff, nothing]

/-- The reply to a TAKE NOTICES from a queue: the entries removed and left, and those returned (R194). -/
def noticesReply (queue : List Notice) (count asked : Nat) : Reply where
  answer := .ok
  results := byte1 (queue.take count).length ++ byte1 (queue.drop count).length ++
    takenBytes (queue.take count)
  clamped := count != asked

theorem takeNoticesOwner_one (p : Port) (c : Byte) (s : State) :
    takeNoticesOwner p [c] s =
      (updPort p (takeOldest (clampNat 1 4 c.toNat) s.ports.strap p) s,
        noticesReply (s.ports.recs.get p).queue (clampNat 1 4 c.toNat) c.toNat) := by
  simp only [takeNoticesOwner, updPort_own]
  rfl

theorem takeNoticesOwner_refuses {p : Port} {args : List Byte} (wrong : args.length ≠ 1) (s : State) :
    takeNoticesOwner p args s = (s, refuse .badValue) := by
  unfold takeNoticesOwner
  split
  · exact absurd rfl wrong
  · rfl

/-- The state after a TAKE NOTICES of n bytes: the last response clocked out, the oldest entries gone, the
answer formed (R188, R194). -/
def noticesTaken (p : Port) (n count asked : Nat) (s : State) : State :=
  respond p Request.takeNotices.code (noticesReply (s.ports.recs.get p).queue count asked)
    (updPort p (takeOldest count s.ports.strap p) (clockOut p n s))

theorem exec_takeNotices_one {p : Port} {f : Frame} {s : State} {c : Byte}
    (taken : Taken .takeNotices p f s) (one : f.args = [c]) :
    exec (.takeNotices p f) s =
      .next (noticesTaken p (frameBytes f) (clampNat 1 4 c.toNat) c.toNat s) := by
  have served : exec (.takeNotices p f) s = _ := serve_of_taken taken
  rw [served, one, takeNoticesOwner_one, clockOut_own]
  rfl

section Taken
variable (p : Port) (n count asked : Nat) (s : State)

theorem noticesTaken_onlyPort : OnlyPort p s (noticesTaken p n count asked s) :=
  ((clockOut_onlyPort p s n).trans (updPort_onlyPort ..)).trans (respond_onlyPort ..)

/-- Beside the response and the bytes clocked out, the port's record is the one with its oldest entries
gone. -/
theorem noticesTaken_own :
    (noticesTaken p n count asked s).ports.recs.get p =
      { takeOldest count s.ports.strap p (s.ports.recs.get p) with
        response := ((noticesTaken p n count asked s).ports.recs.get p).response
        sdo := ((noticesTaken p n count asked s).ports.recs.get p).sdo } := by
  simp only [noticesTaken, respond_own, updPort_own, clockOut_own]
  rfl

theorem noticesTaken_answers :
    Answers .takeNotices p
      (0x00 :: BitVec.ofNat 8 (min count (s.ports.recs.get p).queue.length) ::
        BitVec.ofNat 8 ((s.ports.recs.get p).queue.length - count) ::
        takenBytes ((s.ports.recs.get p).queue.take count))
      (noticesTaken p n count asked s) := by
  rw [← List.length_take, ← List.length_drop]
  exact answers_respond ..

theorem noticesTaken_clamped_iff :
    clampedFlag (noticesTaken p n count asked s) p = true ↔ count ≠ asked := by
  rw [noticesTaken, clampedFlag_respond]
  exact bne_iff_ne

end Taken

/-- Settles O57: a wrong length is refused by the owner; else the state is `noticesTaken`, whose port record is
`takeOldest`'s and whose answer is `noticesReply`'s. -/
theorem takeNoticesRemovesTheOldest : Obligations.TakeNoticesRemovesTheOldest := by
  refine fun p f s taken =>
    ⟨fun wrong => serve_refused taken (takeNoticesOwner_refuses wrong), fun c one => ?_⟩
  intro r count k
  have own := noticesTaken_own p (frameBytes f) count c.toNat s
  have only := noticesTaken_onlyPort p (frameBytes f) count c.toNat s
  have left : r.queue.length - k = r.queue.length - count := by omega
  have removed : r.queue.drop k = r.queue.drop count := List.drop_eq_drop_iff.mpr (by omega)
  have returned : r.queue.take k = r.queue.take count := List.take_eq_take_iff.mpr (by omega)
  refine ⟨noticesTaken p (frameBytes f) count c.toNat s, exec_takeNotices_one taken one, ?asked,
    only.blocks, only.others, ?queue, ?overflow, ?line, ?answer, noticesTaken_clamped_iff ..⟩
  case asked => refine only.asked ?_ ?_ <;> rw [own] <;> rfl
  case queue => rw [own, removed]; rfl
  case overflow => rw [own]; exact takeOldest_overflow_iff count s.ports.strap p r
  case line => rw [own, left]; exact takeOldest_lineActive_iff count s.ports.strap p r
  case answer =>
    rw [returned, left, ← takenBytes_take (Nat.le_max_left ..)]
    exact noticesTaken_answers ..

end Sys2Proof.Proofs
